-- ==== Sys2Proof/Word.lean ====
section
/-! DEFINITION. The values of the block: 32-bit words, bytes, 128-bit descriptors, and the names of the three lanes and
of the two byte orders (spec/00_scope.md R9, R10, R12, R13; spec/20_memory.md R54). -/

namespace Sys2Proof

/-- A register value, seed, digest, key payload or descriptor word (R6, R9). The primitives of R10 are `BitVec`'s own:
`+` and `-` modulo 2^32, `^^^`, `|||`, `<<<` (bits lost at the top), `>>>` (logical). -/
abbrev Word := BitVec 32

/-- One input element of a byte command, an unsigned value 0 to 255 (R12). -/
abbrev Byte := BitVec 8

/-- A command descriptor, D0 in bits 31:0 up to D3 in bits 127:96 (R70). -/
abbrev Descriptor := BitVec 128

/-- The three lane registers `x[0]`, `x[1]`, `x[2]` (R13, R21). -/
inductive Lane where
  | a
  | b
  | c
deriving DecidableEq, Repr

/-- The two variants of the byte_to_word_packer (R54). -/
inductive ByteOrder where
  | little
  | big
deriving DecidableEq, Repr

end Sys2Proof
end

