-- ==== Sys2Proof/Config.lean ====
section
/-! DEFINITION. What the spec names as parameters of the hardware, with the values this hardware has, and the free
values of the model (spec/00_scope.md R6, R7, R8; spec/70_reset_and_hazards.md R250, R251). -/

namespace Sys2Proof

/-- SEED2_LANE: the lane that receives the second seed; b for this hardware (R8, R152, R176; log 14). -/
def Config.seed2Lane : Lane := .b

/-- MIX_LAST_FULL_BLOCK: every full block, also one that ends the input, is followed by `mix` (R8, R153, R177; log 14). -/
def Config.mixLastFullBlock : Bool := true

/-- FINAL_ON_EMPTY_TAIL: `final` is applied even when no tail element remains, also for zero-length byte input
(R8, R179; log 14). -/
def Config.finalOnEmptyTail : Bool := true

/-- The twelve 32-bit registers that asserting reset leaves unspecified (R35, R251); the thirteenth is the 8-bit `op`. -/
inductive ResetRegister where
  | a | b | c | h | pk | len | seed1 | seed2 | idx | res0 | res1 | res2
deriving DecidableEq, Repr

/-- FREE VALUE: what register `r` holds after the `n`-th assertion of reset in a run. R250: "every other register
becomes unspecified". It has no body, so no proof can learn what it is (log 2). -/
opaque Config.unspecifiedWord (n : Nat) (r : ResetRegister) : Word

/-- FREE VALUE: what the 8-bit register `op` holds after the `n`-th assertion of reset in a run (R250, log 2). -/
opaque Config.unspecifiedOp (n : Nat) : BitVec 8

end Sys2Proof
end

