-- ==== Sys2Proof/Syntax.lean ====
section
/-! DEFINITION. The command set: one constructor per row of spec/opcode_table.json (spec/00_scope.md R3,
spec/30_encoding.md R71, R72), why a descriptor is no command (R78), and the call notation of the assembler (R81, R82). -/

namespace Sys2Proof

/-- The eight opcodes, in the order of R71. -/
inductive Opcode where
  | mix
  | final
  | hashword
  | hashword2
  | hashlittle
  | hashlittle2
  | hashbig
  | oneatatime
deriving DecidableEq, Repr

/-- A command with its operands (R72). An operand word that the format does not use has no effect (R73) and is not
part of the instruction. -/
inductive Instr where
  /-- `MIX`, format T: the initial values of the lanes (R132). -/
  | mix (a b c : Word)
  /-- `FINAL`, format T: the initial values of the lanes (R134). -/
  | final (a b c : Word)
  /-- `HASHWORD`, format S1: word count and seed (R158). -/
  | hashword (len seed1 : Word)
  /-- `HASHWORD2`, format S2: word count and two seeds (R159). -/
  | hashword2 (len seed1 seed2 : Word)
  /-- `HASHLITTLE`, format S1: byte count and seed (R182). -/
  | hashlittle (len seed1 : Word)
  /-- `HASHLITTLE2`, format S2: byte count and two seeds (R183). -/
  | hashlittle2 (len seed1 seed2 : Word)
  /-- `HASHBIG`, format S1: byte count and seed (R196). -/
  | hashbig (len seed1 : Word)
  /-- `ONEATATIME`, format L: byte count (R205). -/
  | oneatatime (len : Word)
deriving DecidableEq, Repr

/-- The opcode of a command (R71). -/
def Instr.opcode : Instr → Opcode
  | .mix _ _ _ => .mix
  | .final _ _ _ => .final
  | .hashword _ _ => .hashword
  | .hashword2 _ _ _ => .hashword2
  | .hashlittle _ _ => .hashlittle
  | .hashlittle2 _ _ _ => .hashlittle2
  | .hashbig _ _ => .hashbig
  | .oneatatime _ => .oneatatime

/-- How many result words a command reports (R6, R30). -/
def Opcode.results : Opcode → Nat
  | .mix => 3
  | .final => 3
  | .hashword => 1
  | .hashword2 => 2
  | .hashlittle => 1
  | .hashlittle2 => 2
  | .hashbig => 1
  | .oneatatime => 1

/-- Why a descriptor selects no command; the two checks of R79 in their order. -/
inductive DecodeError where
  /-- D0[31:8] is not 0 (R78, R79 step 1). -/
  | reservedBits
  /-- D0[7:0] is 0x08 or greater (R78, R79 step 2). -/
  | unassignedOpcode
deriving DecidableEq, Repr

/-- A byte buffer in the call notation (R81): a list of byte values, or a string literal, its characters without the
quotes. -/
inductive ByteSeq where
  | list (bytes : List Nat)
  | text (chars : List Char)
deriving DecidableEq, Repr

/-- One line of the call notation (R81). A seed that is left out is `none` (R82). -/
inductive Call where
  | mix (a b c : Nat)
  | final (a b c : Nat)
  | hashword (words : List Nat) (seed1 : Option Nat)
  | hashword2 (words : List Nat) (seed1 seed2 : Option Nat)
  | hashlittle (bytes : ByteSeq) (seed1 : Option Nat)
  | hashlittle2 (bytes : ByteSeq) (seed1 seed2 : Option Nat)
  | hashbig (bytes : ByteSeq) (seed1 : Option Nat)
  | oneatatime (bytes : ByteSeq)
deriving DecidableEq, Repr

end Sys2Proof
end

