-- ==== Sys2Proof/WellFormed.lean ====
section
/-! DEFINITION. Which terms of the syntax stand for something. Every `Instr` is well formed: each operand is a whole
32-bit word and every value of it is legal (spec/10_state.md R27, spec/30_encoding.md R74). What can be ill formed is a
`Call` of the assembler's notation (R81, R82, R83). -/

namespace Sys2Proof

/-- A number that fits a 32-bit word: "Numbers ... must lie in 0 to 2^32 - 1" (R81, R83). -/
def wordNumber (n : Nat) : Bool := decide (n < 2 ^ 32)

/-- A number that fits a byte: "0 to 255 inside BYTES" (R81). -/
def byteNumber (n : Nat) : Bool := decide (n < 2 ^ 8)

/-- A character with a 7-bit ASCII code (R81). -/
def asciiChar (c : Char) : Bool := decide (c.toNat < 2 ^ 7)

/-- An element count that fits the LEN operand (R7). -/
def countable {α : Type} (xs : List α) : Bool := decide (xs.length < 2 ^ 32)

/-- A seed that is given fits a word (R81). -/
def seedNumber : Option Nat → Bool
  | none => true
  | some n => wordNumber n

/-- A second seed is given only after a first (R82 lists no other pseudo-form). -/
def seedsInOrder : Option Nat → Option Nat → Bool
  | none, some _ => false
  | _, _ => true

/-- The buffer's bytes are bytes and can be counted by LEN (R81, R7). -/
def ByteSeq.wellFormed : ByteSeq → Bool
  | .list bs => bs.all byteNumber && countable bs
  | .text cs => cs.all asciiChar && countable cs

/-- What an assembler can put into one descriptor and its key beats (R81 to R83). An empty word list is well formed:
it is assembled and then refused by the hardware (R83). -/
def Call.wellFormed : Call → Bool
  | .mix a b c => wordNumber a && wordNumber b && wordNumber c
  | .final a b c => wordNumber a && wordNumber b && wordNumber c
  | .hashword ws s1 => ws.all wordNumber && countable ws && seedNumber s1
  | .hashword2 ws s1 s2 => ws.all wordNumber && countable ws && seedNumber s1 && seedNumber s2 && seedsInOrder s1 s2
  | .hashlittle bs s1 => bs.wellFormed && seedNumber s1
  | .hashlittle2 bs s1 s2 => bs.wellFormed && seedNumber s1 && seedNumber s2 && seedsInOrder s1 s2
  | .hashbig bs s1 => bs.wellFormed && seedNumber s1
  | .oneatatime bs => bs.wellFormed

end Sys2Proof
end

