-- ==== Sys2Proof/Decode.lean ====
section
/-! DEFINITION. The command descriptor read and written (spec/30_encoding.md R70 to R74, R78, R79). Decoding is total:
a descriptor is one of the eight commands or is rejected by the name of the check it fails. -/

namespace Sys2Proof

/-- The 8-bit OPC value of an opcode (R71). -/
def Opcode.bits : Opcode → BitVec 8
  | .mix => 0x00
  | .final => 0x01
  | .hashword => 0x02
  | .hashword2 => 0x03
  | .hashlittle => 0x04
  | .hashlittle2 => 0x05
  | .hashbig => 0x06
  | .oneatatime => 0x07

/-- The opcode an 8-bit value names; 0x08 to 0xFF name none (R71, R78). -/
def Opcode.ofBits? (v : BitVec 8) : Option Opcode :=
  match v.toNat with
  | 0 => some .mix
  | 1 => some .final
  | 2 => some .hashword
  | 3 => some .hashword2
  | 4 => some .hashlittle
  | 5 => some .hashlittle2
  | 6 => some .hashbig
  | 7 => some .oneatatime
  | _ => none

/-- Word D0 of a descriptor, bits 31:0 (R70). -/
def Descriptor.d0 (d : Descriptor) : Word := d.extractLsb' 0 32

/-- Word D1 of a descriptor, bits 63:32 (R70). -/
def Descriptor.d1 (d : Descriptor) : Word := d.extractLsb' 32 32

/-- Word D2 of a descriptor, bits 95:64 (R70). -/
def Descriptor.d2 (d : Descriptor) : Word := d.extractLsb' 64 32

/-- Word D3 of a descriptor, bits 127:96 (R70). -/
def Descriptor.d3 (d : Descriptor) : Word := d.extractLsb' 96 32

/-- The descriptor made of four words (R70). -/
def Descriptor.ofWords (d0 d1 d2 d3 : Word) : Descriptor :=
  d0.setWidth 128 ||| (d1.setWidth 128 <<< 32) ||| (d2.setWidth 128 <<< 64) ||| (d3.setWidth 128 <<< 96)

/-- Field OPC of D0, bits 7:0 (R70). -/
def Descriptor.opc (d : Descriptor) : BitVec 8 := d.d0.extractLsb' 0 8

/-- Field RSV of D0, bits 31:8 (R70). -/
def Descriptor.rsv (d : Descriptor) : BitVec 24 := d.d0.extractLsb' 8 24

/-- The command of an opcode with its operands taken from D1, D2, D3 unchanged (R72, R74). -/
def Opcode.withOperands (o : Opcode) (d1 d2 d3 : Word) : Instr :=
  match o with
  | .mix => .mix d1 d2 d3
  | .final => .final d1 d2 d3
  | .hashword => .hashword d1 d2
  | .hashword2 => .hashword2 d1 d2 d3
  | .hashlittle => .hashlittle d1 d2
  | .hashlittle2 => .hashlittle2 d1 d2 d3
  | .hashbig => .hashbig d1 d2
  | .oneatatime => .oneatatime d1

/-- Decode an accepted descriptor, steps 1 to 3 of R79 in their order. Steps 4 and 5 are the command's own
(`Machine/`). -/
def decode (d : Descriptor) : Except DecodeError Instr :=
  if d.rsv ≠ 0 then .error .reservedBits
  else
    match Opcode.ofBits? d.opc with
    | none => .error .unassignedOpcode
    | some o => .ok (o.withOperands d.d1 d.d2 d.d3)

/-- Word D0 that selects an opcode: RSV is 0 (R70, R71). -/
def Opcode.d0 (o : Opcode) : Word := o.bits.setWidth 32

/-- The descriptor of a command; words its format does not use are 0 (R72, R73, R81). -/
def encode : Instr → Descriptor
  | .mix a b c => .ofWords Opcode.mix.d0 a b c
  | .final a b c => .ofWords Opcode.final.d0 a b c
  | .hashword len s1 => .ofWords Opcode.hashword.d0 len s1 0
  | .hashword2 len s1 s2 => .ofWords Opcode.hashword2.d0 len s1 s2
  | .hashlittle len s1 => .ofWords Opcode.hashlittle.d0 len s1 0
  | .hashlittle2 len s1 s2 => .ofWords Opcode.hashlittle2.d0 len s1 s2
  | .hashbig len s1 => .ofWords Opcode.hashbig.d0 len s1 0
  | .oneatatime len => .ofWords Opcode.oneatatime.d0 len 0 0

/-- The descriptor whose low `nbits` bits are `w` and whose other bits are 0, numbered as spec/opcode_table.json numbers
them, which is R70's own numbering (log 23). There is no descriptor longer than 128 bits (R80). -/
def tableDescriptor (nbits w : Nat) : Descriptor := BitVec.ofNat 128 (w % 2 ^ nbits)

/-- What the decoder reads from an opcode-table word. -/
def decodeTableWord (nbits w : Nat) : Option Instr :=
  match decode (tableDescriptor nbits w) with
  | .ok i => some i
  | .error _ => none

end Sys2Proof
end

