-- ==== Sys2Proof/Machine/State.lean ====
section
/-! DEFINITION. The state of one instance: the 16 registers of spec/10_state.md R20, and the model's own fields that
hold what the host offers and will do (R34: inputs of the step relation, which this machine's step takes from its
state; logs 3 and 4). Why a step can stop. The state after reset (R35, R251). -/

namespace Sys2Proof.Machine

/-- The sequencer phase, a 2-bit register (R23). -/
inductive Phase where
  | idle
  | run
  | done
  | err
deriving DecidableEq, Repr

/-- The 3-bit error register by name (R28, R29, R221). The codes 5 to 7 are unused and have no name (log 15). -/
inductive ErrorCode where
  /-- Code 0: no error. -/
  | none
  /-- Code 1: HASHWORD or HASHWORD2 accepted with LEN = 0 (R222). -/
  | invalidInput
  /-- Code 2: reserved for the boundary layer, never raised (R223). -/
  | outOfRange
  /-- Code 3: reserved for the boundary layer, never raised (R224). -/
  | allocationFailure
  /-- Code 4: an illegal descriptor was accepted (R225). -/
  | illegalCommand
deriving DecidableEq, Repr

/-- What can happen beside the block's own steps: the rows of R261 that are moves of the host, the withdrawal R101 and
R256 allow for an item that was not accepted, and the passing of time. Reads of STATUS and of result words change nothing (R100) and are `readStatus` and
`readResult`. -/
inductive HostMove where
  /-- The host changes nothing; the block takes its own step if one is enabled. -/
  | proceed
  /-- Time passes: the host changes nothing and the block has not yet taken its step. R258 gives no bound on when it does;
  a list of moves is finite, so it does after a finite time (log 6). -/
  | pause
  /-- The host asserts reset (R250). -/
  | assertReset
  /-- The host offers a further descriptor, after those already offered. -/
  | offerCommand (d : Descriptor)
  /-- The host offers a further key payload, after those already offered. -/
  | offerKey (kdata : Word)
  /-- The host withdraws the descriptor at the front of the command channel. -/
  | withdrawCommand
  /-- The host withdraws the payload at the front of the key channel. -/
  | withdrawKey
deriving DecidableEq, Repr

/-- One instance of the block and its host's side of the channels. -/
structure State where
  /-- lane 0 (R21) -/
  a : Word
  /-- lane 1 (R21) -/
  b : Word
  /-- lane 2 (R21) -/
  c : Word
  /-- one-at-a-time accumulator (R22) -/
  h : Word
  /-- pack register (R31) -/
  pk : Word
  /-- opcode of the current command (R27) -/
  op : BitVec 8
  /-- element count of the current command (R27) -/
  len : Word
  /-- first seed (R27) -/
  seed1 : Word
  /-- second seed (R27) -/
  seed2 : Word
  /-- elements consumed so far (R23) -/
  idx : Word
  /-- sequencer phase (R23) -/
  phase : Phase
  /-- error code (R29) -/
  err : ErrorCode
  /-- number of valid result words (R30) -/
  nres : BitVec 2
  /-- result word 0 (R30) -/
  res0 : Word
  /-- result word 1 (R30) -/
  res1 : Word
  /-- result word 2 (R30) -/
  res2 : Word
  /-- the model's own: what the host offers on the command channel, the front first (R70, R101; log 4) -/
  cmdChannel : List Descriptor
  /-- the model's own: what the host offers on the key channel, the front first (R52, R76; log 4) -/
  keyChannel : List Word
  /-- the model's own: the host's next moves, the first first; when it is empty the host changes nothing (log 4) -/
  host : List HostMove
  /-- the model's own: how many times reset was asserted, which selects the free values it leaves (log 3) -/
  resets : Nat
deriving DecidableEq, Repr

/-- Why the block itself could have no next state. The spec's own errors are not here: taking one is a next state
(R226). -/
inductive Fault where
  /-- Raised by the KEY step (`keyStep`) when phase = RUN and idx < len while `op` names no command that has a KEY
  step, and by the FINISH step (`finishStep`) when `op` names no command: R104 and R107 list no effect for these. No
  state that a command reaches is such a state (R102, R106). Safe. -/
  | noCommandInProgress
deriving DecidableEq, Repr

/-- Why the model gives something no meaning. -/
inductive Refusal where
  /-- Raised by `exec` for an instruction that has no meaning yet. No arm raises it. Safe. -/
  | notModelled (mnemonic : String)
  /-- Raised by `readResult`, a host read of a result word that holds no value (R33, U4; log 18). No step raises it.
  Safe. -/
  | resultHasNoValue
deriving DecidableEq, Repr

/-- The machine right after reset (R35, R251). `phase`, `err` and `nres` are the spec's; every other register is
unspecified there and holds 0 here by the model's choice (log 1). Nothing is offered (logs 4, 5). -/
def State.reset : State where
  a := 0
  b := 0
  c := 0
  h := 0
  pk := 0
  op := 0
  len := 0
  seed1 := 0
  seed2 := 0
  idx := 0
  phase := .idle
  err := .none
  nres := 0
  res0 := 0
  res1 := 0
  res2 := 0
  cmdChannel := []
  keyChannel := []
  host := []
  resets := 0

end Sys2Proof.Machine
end

