-- ==== Sys2Proof/Machine/Flags.lean ====
section
/-! DEFINITION. Everything that is a function of the registers and is no register: the ready conditions
(spec/40_sequencer.md R101, R103, R106), the level outputs (spec/10_state.md R26), and the result and status channel
(R28, R30; spec/30_encoding.md R77). There are no arithmetic flags (R26). -/

namespace Sys2Proof.Machine

/-- The 2-bit value of the phase (R23). -/
def Phase.code : Phase → BitVec 2
  | .idle => 0
  | .run => 1
  | .done => 2
  | .err => 3

/-- The 3-bit value of the error register (R28, R221). -/
def ErrorCode.code : ErrorCode → BitVec 3
  | .none => 0
  | .invalidInput => 1
  | .outOfRange => 2
  | .allocationFailure => 3
  | .illegalCommand => 4

/-- `cmd_ready` = (phase != RUN) (R101). -/
def State.cmdReady (s : State) : Bool := decide (s.phase ≠ .run)

/-- `key_ready` = (phase = RUN and idx < len) (R103). -/
def State.keyReady (s : State) : Bool := decide (s.phase = .run ∧ s.idx < s.len)

/-- The FINISH step is enabled exactly when phase = RUN and idx = len (R106). -/
def State.finishEnabled (s : State) : Bool := decide (s.phase = .run ∧ s.idx = s.len)

/-- Level output `busy` (R26). -/
def State.busy (s : State) : Bool := decide (s.phase = .run)

/-- Level output `done` (R26). -/
def State.doneFlag (s : State) : Bool := decide (s.phase = .done)

/-- Level output `error` (R26). -/
def State.errorFlag (s : State) : Bool := decide (s.phase = .err)

/-- The STATUS register: PHASE in bits 1:0, ERR in 4:2, NRES in 6:5, zero above (R28). -/
def State.statusWord (s : State) : Word := (0 : BitVec 25) ++ s.nres ++ s.err.code ++ s.phase.code

/-- A host read of STATUS: allowed in every phase, without side effect (R28, R77). -/
def readStatus (s : State) : Word := s.statusWord

/-- Result register number `k` (R30). -/
def State.resultWord (s : State) (k : Nat) : Word :=
  match k with
  | 0 => s.res0
  | 1 => s.res1
  | _ => s.res2

/-- A host read of result word `k`: it has a value only when phase = DONE and k < nres, and is refused otherwise
(R30, R33, R77, R254; U4; log 18). `nres` is at most 3, so no index above 2 has a value. -/
def readResult (k : Nat) (s : State) : Except Refusal Word :=
  if s.phase = .done ∧ k < s.nres.toNat then .ok (s.resultWord k) else .error .resultHasNoValue

end Sys2Proof.Machine
end

