-- ==== Sys2Proof/Machine/Operands.lean ====
section
/-! DEFINITION. The forms in which an element enters a command: the key payload as word or byte, the position an index
gives an element (spec/10_state.md R25), and the byte_to_word_packer in both byte orders (spec/43_hashlittle.md R170 to
R174, spec/44_hashbig.md R191 to R195). -/

namespace Sys2Proof.Machine

/-- The element of a byte command: payload bits 7:0; bits 31:8 are ignored (R51, R76). -/
def elementByte (kdata : Word) : Byte := kdata.extractLsb' 0 8

/-- A byte enters arithmetic zero-extended (R12). -/
def zextByte (x : Byte) : Word := x.setWidth 32

/-- Lane number 0, 1 or 2 (R13). -/
def laneOfNat (n : Nat) : Lane :=
  match n with
  | 0 => .a
  | 1 => .b
  | _ => .c

/-- The lane of the word of index `i`: lane `i mod 3` (R25, R153). -/
def laneOfWordIndex (i : Word) : Lane := laneOfNat (i.toNat % 3)

/-- The lane of the byte of index `i`: lane `(i mod 12) div 4` (R25, R173). -/
def laneOfByteIndex (i : Word) : Lane := laneOfNat (i.toNat % 12 / 4)

/-- The position of the byte of index `i` in its word, `j = i mod 4` (R25, R173). -/
def bytePosition (i : Word) : Nat := i.toNat % 4

/-- By how much the byte of position `j` is shifted left in its word: `8 * j` little-endian (R173), `8 * (3 - j)`
big-endian (R193). -/
def byteShift (ord : ByteOrder) (j : Nat) : Nat :=
  match ord with
  | .little => 8 * j
  | .big => 8 * (3 - j)

/-- A byte at its position in the word being packed (R173, R193). -/
def placeByte (ord : ByteOrder) (j : Nat) (x : Byte) : Word := zextByte x <<< byteShift ord j

/-- Little-endian packing of a full word (R171). -/
def packLe (b0 b1 b2 b3 : Byte) : Word :=
  zextByte b0 ||| (zextByte b1 <<< 8) ||| (zextByte b2 <<< 16) ||| (zextByte b3 <<< 24)

/-- Big-endian packing of a full word (R191). -/
def packBe (b0 b1 b2 b3 : Byte) : Word :=
  (zextByte b0 <<< 24) ||| (zextByte b1 <<< 16) ||| (zextByte b2 <<< 8) ||| zextByte b3

/-- Packing in either byte order (R181). A missing byte of a partial word is passed as 0 (R172, R192). -/
def packWord (ord : ByteOrder) (b0 b1 b2 b3 : Byte) : Word :=
  match ord with
  | .little => packLe b0 b1 b2 b3
  | .big => packBe b0 b1 b2 b3

end Sys2Proof.Machine
end

