-- ==== Sys2Proof/Machine/Transforms.lean ====
section
/-! DEFINITION. The pure transforms of the data path: rotation (spec/00_scope.md R11), `mix3` and `final3`
(spec/41_mixer.md R131, R133), `oaat_step` and `oaat_fin` (spec/45_oneatatime.md R201, R202). -/

namespace Sys2Proof.Machine

/-- The values of the three lanes. -/
structure Lanes where
  a : Word
  b : Word
  c : Word
deriving DecidableEq, Repr

/-- Left rotation `(x << k) | (x >> (32 - k))`, for 0 < k < 32 only: the bound is an argument, so that the rotation has
no value outside it (R11, U1). -/
def rot (x : Word) (k : Nat) (_bound : 0 < k ∧ k < 32 := by decide) : Word :=
  (x <<< k) ||| (x >>> (32 - k))

/-- One round of `mix`, `t -= s; t ^= rot(s, k); s += u`; the new `t` and `s` (R131, log 11). -/
def mixRound (k : Nat) (t s u : Word) (bound : 0 < k ∧ k < 32 := by decide) : Word × Word :=
  let t := t - s
  let t := t ^^^ rot s k bound
  let s := s + u
  (t, s)

/-- The six rounds of `mix` (R131). -/
def mix3 (l : Lanes) : Lanes :=
  let (a, b, c) := (l.a, l.b, l.c)
  let (a, c) := mixRound 4 a c b
  let (b, a) := mixRound 6 b a c
  let (c, b) := mixRound 8 c b a
  let (a, c) := mixRound 16 a c b
  let (b, a) := mixRound 19 b a c
  let (c, b) := mixRound 4 c b a
  { a := a, b := b, c := c }

/-- One step of `final`, `t ^= s; t -= rot(s, k)`; the new `t` (R133, log 12). -/
def finalRound (k : Nat) (t s : Word) (bound : 0 < k ∧ k < 32 := by decide) : Word :=
  let t := t ^^^ s
  t - rot s k bound

/-- The seven steps of `final` (R133). -/
def final3 (l : Lanes) : Lanes :=
  let (a, b, c) := (l.a, l.b, l.c)
  let c := finalRound 14 c b
  let a := finalRound 11 a c
  let b := finalRound 25 b a
  let c := finalRound 16 c b
  let a := finalRound 4 a c
  let b := finalRound 14 b a
  let c := finalRound 24 c b
  { a := a, b := b, c := c }

/-- The per-byte function of the one_at_a_time_hasher (R201). -/
def oaatStep (h : Word) (x : Byte) : Word :=
  let h := h + x.setWidth 32
  let h := h + (h <<< 10)
  h ^^^ (h >>> 6)

/-- The finalisation of the one_at_a_time_hasher (R202). -/
def oaatFin (h : Word) : Word :=
  let h := h + (h <<< 3)
  let h := h ^^^ (h >>> 11)
  h + (h <<< 15)

/-- One lane's value, `x[i]` (R13). -/
def Lanes.get (l : Lanes) : Lane → Word
  | .a => l.a
  | .b => l.b
  | .c => l.c

/-- `x[i] <- x[i] + w` (R13, R153, R173). -/
def Lanes.addTo (l : Lanes) (i : Lane) (w : Word) : Lanes :=
  match i with
  | .a => { l with a := l.a + w }
  | .b => { l with b := l.b + w }
  | .c => { l with c := l.c + w }

end Sys2Proof.Machine
end

