-- ==== Sys2Proof/Machine/Ops.lean ====
section
/-! DEFINITION. The named operations every command is written with: the parts of the CMD, KEY and FINISH steps
(spec/40_sequencer.md R102, R104, R107), raising an error (spec/60_exceptions.md R226), asserting reset
(spec/70_reset_and_hazards.md R250), and the host's moves on the channels (R261). -/

namespace Sys2Proof.Machine

/-- What a step answers. -/
abbrev StepOutcome := Host.Outcome State Fault Refusal

/-- The lanes together (R13). -/
def State.lanes (s : State) : Lanes := { a := s.a, b := s.b, c := s.c }

/-- Write all three lanes (R13). -/
def State.setLanes (s : State) (l : Lanes) : State := { s with a := l.a, b := l.b, c := l.c }

/-- `x[i] <- x[i] + w` (R13). -/
def State.addToLane (s : State) (i : Lane) (w : Word) : State := s.setLanes (s.lanes.addTo i w)

/-- `(a, b, c) <- mix3(a, b, c)` (R135). -/
def State.mixLanes (s : State) : State := s.setLanes (mix3 s.lanes)

/-- `(a, b, c) <- final3(a, b, c)` (R135). -/
def State.finalLanes (s : State) : State := s.setLanes (final3 s.lanes)

/-- `idx <- idx + 1` (R24). -/
def State.advanceIdx (s : State) : State := { s with idx := s.idx + 1 }

/-! ## Parts of the CMD step -/

/-- `nres <- 0`, the first line of the CMD step (R102). -/
def State.clearResults (s : State) : State := { s with nres := 0 }

/-- `raise E`: phase <- ERR, err <- code(E); nres is 0. Nothing is saved, there is no vector, every other register keeps
what it held (R226). There is no return command: phase ERR is left by the next CMD step, which writes `err` afresh
(`startRun`, or this operation again), or by reset (R228). -/
def State.raise (s : State) (e : ErrorCode) : State := { s with phase := .err, err := e, nres := 0 }

/-- The last lines of a CMD step that does not raise: `idx <- 0; err <- 0; phase <- RUN` (R102). -/
def State.startRun (s : State) : State := { s with idx := 0, err := .none, phase := .run }

/-- Latch a format T command: opcode, lanes from the operands, `len <- 0` (R74, R102). -/
def State.latchTriple (s : State) (o : Opcode) (a b c : Word) : State :=
  { s with op := o.bits, a := a, b := b, c := c, len := 0 }

/-- Latch a seeded command: opcode, length and both seeds; a one-seed command has second seed 0 (R27, R74, R102). -/
def State.latchSeeded (s : State) (o : Opcode) (len seed1 seed2 : Word) : State :=
  { s with op := o.bits, len := len, seed1 := seed1, seed2 := seed2 }

/-- Latch a format L command: opcode and length; the seeds are not written (R74, R102). -/
def State.latchLength (s : State) (o : Opcode) (len : Word) : State := { s with op := o.bits, len := len }

/-- The initialisation constant (R6). -/
def initConstant : Word := 0xdeadbeef

/-- The three lanes from one value, the second seed added to lane SEED2_LANE (R151, R152, R176). -/
def initLanes (t seed2 : Word) : Lanes := Lanes.addTo { a := t, b := t, c := t } Config.seed2Lane seed2

/-- `init_word`: `t = 0xdeadbeef + (len << 2) + seed1` (R151, R152). -/
def State.initWord (s : State) : State := s.setLanes (initLanes (initConstant + (s.len <<< 2) + s.seed1) s.seed2)

/-- `init_bytes`: `t = 0xdeadbeef + len + seed1`, and `pk <- 0` (R176, R102). -/
def State.initBytes (s : State) : State :=
  { s.setLanes (initLanes (initConstant + s.len + s.seed1) s.seed2) with pk := 0 }

/-- `h <- 0` (R200). -/
def State.initAccumulator (s : State) : State := { s with h := 0 }

/-- The CMD step of a format T command (R102). -/
def State.acceptTriple (s : State) (o : Opcode) (a b c : Word) : State :=
  (s.clearResults.latchTriple o a b c).startRun

/-- The CMD step of a word command: operands are latched, then LEN = 0 raises InvalidInput before any lane is written
(R102, R160, R222). -/
def State.acceptWords (s : State) (o : Opcode) (len seed1 seed2 : Word) : State :=
  let s := s.clearResults.latchSeeded o len seed1 seed2
  if s.len = 0 then s.raise .invalidInput else s.initWord.startRun

/-- The CMD step of a lookup3 byte command (R102). -/
def State.acceptBytes (s : State) (o : Opcode) (len seed1 seed2 : Word) : State :=
  (s.clearResults.latchSeeded o len seed1 seed2).initBytes.startRun

/-- The CMD step of the one-at-a-time command (R102, R200). -/
def State.acceptOneAtATime (s : State) (o : Opcode) (len : Word) : State :=
  (s.clearResults.latchLength o len).initAccumulator.startRun

/-- The CMD step of a descriptor that selects no command (R102, R225). -/
def State.acceptIllegal (s : State) : State := s.clearResults.raise .illegalCommand

/-- A descriptor is accepted only while `cmd_ready`; offered while phase = RUN it is not accepted and changes nothing
(R101). -/
def whenCmdReady (s : State) (cmd : State → State) : StepOutcome :=
  if s.cmdReady then .next (cmd s) else .next s

/-! ## Parts of the KEY step -/

/-- The mixing of a completed block: after the element that ends it when MIX_LAST_FULL_BLOCK is true (R153, R173). -/
def State.mixAfterBlock (s : State) (block : Nat) : State :=
  if Config.mixLastFullBlock ∧ s.idx.toNat % block = 0 then s.mixLanes else s

/-- The mixing of a completed block in the profile this hardware does not have: before the first element of the next
block (R8, GK4; log 14). With MIX_LAST_FULL_BLOCK true it does nothing. -/
def State.mixBeforeBlock (s : State) (block : Nat) : State :=
  if ¬ Config.mixLastFullBlock ∧ s.idx.toNat % block = 0 ∧ s.idx ≠ 0 then s.mixLanes else s

/-- `word_element(w)` (R153). -/
def State.wordElement (s : State) (w : Word) : State :=
  let s := s.mixBeforeBlock 3
  let s := s.addToLane (laneOfWordIndex s.idx) w
  let s := s.advanceIdx
  s.mixAfterBlock 3

/-- `pk <- pk | (zext_32(x) << shift)` (R173, R193). -/
def State.orIntoPk (s : State) (ord : ByteOrder) (x : Byte) : State :=
  { s with pk := s.pk ||| placeByte ord (bytePosition s.idx) x }

/-- `x[lane] <- x[lane] + pk; pk <- 0`, the lane being that of the byte of index `i` (R173, R178). -/
def State.flushPk (s : State) (i : Word) : State := { s.addToLane (laneOfByteIndex i) s.pk with pk := 0 }

/-- `byte_element_le(x)` and `byte_element_be(x)` (R173, R193). -/
def State.byteElement (s : State) (ord : ByteOrder) (x : Byte) : State :=
  let s := s.mixBeforeBlock 12
  let s := s.orIntoPk ord x
  let s := if bytePosition s.idx = 3 then s.flushPk s.idx else s
  let s := s.advanceIdx
  s.mixAfterBlock 12

/-- `h <- oaat_step(h, x); idx <- idx + 1` (R203). -/
def State.oaatElement (s : State) (x : Byte) : State := { s with h := oaatStep s.h x }.advanceIdx

/-! ## Parts of the FINISH step -/

/-- `flush_partial_word()` (R178, R194). -/
def State.flushPartialWord (s : State) : State := if s.len.toNat % 4 ≠ 0 then s.flushPk s.len else s

/-- `final3` on the lanes of a byte command, for every length when FINAL_ON_EMPTY_TAIL is true (R179). -/
def State.finalBytes (s : State) : State :=
  if Config.finalOnEmptyTail ∨ s.len ≠ 0 then s.finalLanes else s

/-- `res0 <- r0; nres <- 1; phase <- DONE` (R30, R107). -/
def State.report1 (s : State) (r0 : Word) : State := { s with res0 := r0, nres := 1, phase := .done }

/-- `res0 <- r0; res1 <- r1; nres <- 2; phase <- DONE` (R30, R107). -/
def State.report2 (s : State) (r0 r1 : Word) : State := { s with res0 := r0, res1 := r1, nres := 2, phase := .done }

/-- `res0 <- r0; res1 <- r1; res2 <- r2; nres <- 3; phase <- DONE` (R30, R107). -/
def State.report3 (s : State) (r0 r1 r2 : Word) : State :=
  { s with res0 := r0, res1 := r1, res2 := r2, nres := 3, phase := .done }

/-- Report the three lanes, as MIX and FINAL do (R30). -/
def State.reportLanes (s : State) : State := s.report3 s.a s.b s.c

/-- Report the primary digest c (R30). -/
def State.reportC (s : State) : State := s.report1 s.c

/-- Report the primary digest c and the secondary digest b (R30). -/
def State.reportCB (s : State) : State := s.report2 s.c s.b

/-- `h <- oaat_fin(h)` (R107). -/
def State.finishAccumulator (s : State) : State := { s with h := oaatFin s.h }

/-! ## Reset and the host's side of the channels -/

/-- Asserting reset, in any phase: phase IDLE, err 0, nres 0, every other register a free value (R250, log 2). What the
host offers is the host's and stays offered. -/
def State.applyReset (s : State) : State :=
  { s with
    a := Config.unspecifiedWord s.resets .a
    b := Config.unspecifiedWord s.resets .b
    c := Config.unspecifiedWord s.resets .c
    h := Config.unspecifiedWord s.resets .h
    pk := Config.unspecifiedWord s.resets .pk
    op := Config.unspecifiedOp s.resets
    len := Config.unspecifiedWord s.resets .len
    seed1 := Config.unspecifiedWord s.resets .seed1
    seed2 := Config.unspecifiedWord s.resets .seed2
    idx := Config.unspecifiedWord s.resets .idx
    phase := .idle
    err := .none
    nres := 0
    res0 := Config.unspecifiedWord s.resets .res0
    res1 := Config.unspecifiedWord s.resets .res1
    res2 := Config.unspecifiedWord s.resets .res2
    resets := s.resets + 1 }

/-- What the host offers on the command channel becomes `ds`. -/
def State.setCmdChannel (s : State) (ds : List Descriptor) : State := { s with cmdChannel := ds }

/-- What the host offers on the key channel becomes `ks`. -/
def State.setKeyChannel (s : State) (ks : List Word) : State := { s with keyChannel := ks }

/-- The host's further moves become `ms`. -/
def State.setHost (s : State) (ms : List HostMove) : State := { s with host := ms }

end Sys2Proof.Machine
end

