-- ==== Sys2Proof/Machine/HashBig.lean ====
section
/-! DEFINITION. HASHBIG, the big-endian byte engine (spec/44_hashbig.md R190, R196): its CMD step (`execHashbig`), its
KEY step (`keyHashbig`) and its FINISH step (`finishHashbig`). -/

namespace Sys2Proof.Machine

/-- `HASHBIG`, CMD step; the second seed is latched as 0 (R196, R102). -/
def execHashbig (len seed1 : Word) (s : State) : StepOutcome :=
  whenCmdReady s fun s => s.acceptBytes .hashbig len seed1 0

/-- `HASHBIG`, KEY step (R193, R196). -/
def keyHashbig (kdata : Word) (s : State) : State := s.byteElement .big (elementByte kdata)

/-- `HASHBIG`, FINISH step: the partial word is flushed, `final3`, c is reported (R194, R196). -/
def finishHashbig (s : State) : State := s.flushPartialWord.finalBytes.reportC

end Sys2Proof.Machine
end

