-- ==== Sys2Proof/Machine/HashLittle.lean ====
section
/-! DEFINITION. HASHLITTLE and HASHLITTLE2, the little-endian byte engine (spec/43_hashlittle.md R182, R183): the CMD
step of each (`exec…`), its KEY step (`key…`) and its FINISH step (`finish…`). -/

namespace Sys2Proof.Machine

/-- `HASHLITTLE`, CMD step; the second seed is latched as 0 (R182, R102). -/
def execHashlittle (len seed1 : Word) (s : State) : StepOutcome :=
  whenCmdReady s fun s => s.acceptBytes .hashlittle len seed1 0

/-- `HASHLITTLE`, KEY step (R173, R182). -/
def keyHashlittle (kdata : Word) (s : State) : State := s.byteElement .little (elementByte kdata)

/-- `HASHLITTLE`, FINISH step: the partial word is flushed, `final3`, c is reported (R178, R179, R182). -/
def finishHashlittle (s : State) : State := s.flushPartialWord.finalBytes.reportC

/-- `HASHLITTLE2`, CMD step (R183, R102). -/
def execHashlittle2 (len seed1 seed2 : Word) (s : State) : StepOutcome :=
  whenCmdReady s fun s => s.acceptBytes .hashlittle2 len seed1 seed2

/-- `HASHLITTLE2`, KEY step (R173, R183). -/
def keyHashlittle2 (kdata : Word) (s : State) : State := s.byteElement .little (elementByte kdata)

/-- `HASHLITTLE2`, FINISH step: the partial word is flushed, `final3`, c and b are reported (R178, R179, R183). -/
def finishHashlittle2 (s : State) : State := s.flushPartialWord.finalBytes.reportCB

end Sys2Proof.Machine
end

