-- ==== Sys2Proof/Machine/HashWord.lean ====
section
/-! DEFINITION. HASHWORD and HASHWORD2, the hashword_engine (spec/42_hashword.md R158, R159): the CMD step of each
(`exec…`), its KEY step (`key…`) and its FINISH step (`finish…`). -/

namespace Sys2Proof.Machine

/-- `HASHWORD`, CMD step; the second seed is latched as 0 (R158, R102). -/
def execHashword (len seed1 : Word) (s : State) : StepOutcome :=
  whenCmdReady s fun s => s.acceptWords .hashword len seed1 0

/-- `HASHWORD`, KEY step (R158, R104). -/
def keyHashword (kdata : Word) (s : State) : State := s.wordElement kdata

/-- `HASHWORD`, FINISH step: `final3`, c is reported (R155, R158, R107). -/
def finishHashword (s : State) : State := s.finalLanes.reportC

/-- `HASHWORD2`, CMD step (R159, R102). -/
def execHashword2 (len seed1 seed2 : Word) (s : State) : StepOutcome :=
  whenCmdReady s fun s => s.acceptWords .hashword2 len seed1 seed2

/-- `HASHWORD2`, KEY step (R159, R104). -/
def keyHashword2 (kdata : Word) (s : State) : State := s.wordElement kdata

/-- `HASHWORD2`, FINISH step: `final3`, c and b are reported (R155, R159, R107). -/
def finishHashword2 (s : State) : State := s.finalLanes.reportCB

end Sys2Proof.Machine
end

