-- ==== Sys2Proof/Machine/Mixer.lean ====
section
/-! DEFINITION. MIX and FINAL, the mixer's own commands (spec/41_mixer.md R132, R134): the CMD step of each (`exec…`) and
its FINISH step (`finish…`). Neither has a KEY step: their key space is empty (R50, R103). -/

namespace Sys2Proof.Machine

/-- `MIX`, CMD step: `a <- A; b <- B; c <- C; len <- 0` (R132, R102). -/
def execMix (a b c : Word) (s : State) : StepOutcome := whenCmdReady s fun s => s.acceptTriple .mix a b c

/-- `MIX`, FINISH step: `mix3`, then all three lanes are reported (R132, R107). -/
def finishMix (s : State) : State := s.mixLanes.reportLanes

/-- `FINAL`, CMD step: `a <- A; b <- B; c <- C; len <- 0` (R134, R102). -/
def execFinal (a b c : Word) (s : State) : StepOutcome := whenCmdReady s fun s => s.acceptTriple .final a b c

/-- `FINAL`, FINISH step: `final3`, then all three lanes are reported (R134, R107). -/
def finishFinal (s : State) : State := s.finalLanes.reportLanes

end Sys2Proof.Machine
end

