-- ==== Sys2Proof/Machine/OneAtATime.lean ====
section
/-! DEFINITION. ONEATATIME, the one_at_a_time_hasher (spec/45_oneatatime.md R205): its CMD step (`execOneatatime`), its
KEY step (`keyOneatatime`) and its FINISH step (`finishOneatatime`). -/

namespace Sys2Proof.Machine

/-- `ONEATATIME`, CMD step: `len <- D1; h <- 0` (R200, R205, R102). -/
def execOneatatime (len : Word) (s : State) : StepOutcome :=
  whenCmdReady s fun s => s.acceptOneAtATime .oneatatime len

/-- `ONEATATIME`, KEY step (R203, R205). -/
def keyOneatatime (kdata : Word) (s : State) : State := s.oaatElement (elementByte kdata)

/-- `ONEATATIME`, FINISH step: `h <- oaat_fin(h)`, h is reported (R202, R205). -/
def finishOneatatime (s : State) : State := s.finishAccumulator.report1 s.finishAccumulator.h

end Sys2Proof.Machine
end

