-- ==== Sys2Proof/Machine/Dispatch.lean ====
section
/-! DEFINITION. Executing a command: its CMD step (spec/40_sequencer.md R102). What its KEY and FINISH steps do is in the
same family files and is chosen by the latched opcode (`Machine/Sequencer.lean`). -/

namespace Sys2Proof.Machine

def exec (i : Instr) (s : State) : Host.Outcome State Fault Refusal :=
  match i with
  | .mix a b c => Sys2Proof.Machine.execMix a b c s
  | .final a b c => Sys2Proof.Machine.execFinal a b c s
  | .hashword len seed1 => Sys2Proof.Machine.execHashword len seed1 s
  | .hashword2 len seed1 seed2 => Sys2Proof.Machine.execHashword2 len seed1 seed2 s
  | .hashlittle len seed1 => Sys2Proof.Machine.execHashlittle len seed1 s
  | .hashlittle2 len seed1 seed2 => Sys2Proof.Machine.execHashlittle2 len seed1 seed2 s
  | .hashbig len seed1 => Sys2Proof.Machine.execHashbig len seed1 s
  | .oneatatime len => Sys2Proof.Machine.execOneatatime len s

end Sys2Proof.Machine
end

