-- ==== Sys2Proof/Machine/Sequencer.lean ====
section
/-! DEFINITION. The sequencer: which of the three kinds of step the block takes, the choice of a KEY or FINISH step by the
latched opcode, and the host's moves (spec/40_sequencer.md R100 to R107; spec/70_reset_and_hazards.md R250, R261). -/

namespace Sys2Proof.Machine

/-- CMD step: the offered descriptor `d` is accepted; a descriptor that selects no command raises IllegalCommand
(R79, R102, R225). -/
def cmdStep (d : Descriptor) (s : State) : StepOutcome :=
  match decode d with
  | .ok i => exec i s
  | .error _ => whenCmdReady s State.acceptIllegal

/-- KEY step: the element rule of the current command (R104). -/
def keyStep (kdata : Word) (s : State) : StepOutcome :=
  match Opcode.ofBits? s.op with
  | some .hashword => .next (keyHashword kdata s)
  | some .hashword2 => .next (keyHashword2 kdata s)
  | some .hashlittle => .next (keyHashlittle kdata s)
  | some .hashlittle2 => .next (keyHashlittle2 kdata s)
  | some .hashbig => .next (keyHashbig kdata s)
  | some .oneatatime => .next (keyOneatatime kdata s)
  | some .mix => .fault .noCommandInProgress
  | some .final => .fault .noCommandInProgress
  | none => .fault .noCommandInProgress

/-- FINISH step: the results of the current command (R107). -/
def finishStep (s : State) : StepOutcome :=
  match Opcode.ofBits? s.op with
  | some .mix => .next (finishMix s)
  | some .final => .next (finishFinal s)
  | some .hashword => .next (finishHashword s)
  | some .hashword2 => .next (finishHashword2 s)
  | some .hashlittle => .next (finishHashlittle s)
  | some .hashlittle2 => .next (finishHashlittle2 s)
  | some .hashbig => .next (finishHashbig s)
  | some .oneatatime => .next (finishOneatatime s)
  | none => .fault .noCommandInProgress

/-- The block's own step (R100): a FINISH step when enabled (R106), else a KEY step when `key_ready` and a payload is
offered (R103), else a CMD step when `cmd_ready` and a descriptor is offered (R101). The three conditions exclude one
another. When none holds the block waits and all registers keep their values (R242, R256; logs 6, 8, 10). -/
def blockStep (s : State) : StepOutcome :=
  if s.finishEnabled then finishStep s
  else if s.keyReady then
    match s.keyChannel with
    | [] => .next s
    | k :: ks => keyStep k (s.setKeyChannel ks)
  else if s.cmdReady then
    match s.cmdChannel with
    | [] => .next s
    | d :: ds => cmdStep d (s.setCmdChannel ds)
  else .next s

/-- What one host move does (R261); when the host changes nothing, the block takes its own step. -/
def hostTurn (m : HostMove) (s : State) : StepOutcome :=
  match m with
  | .proceed => blockStep s
  | .pause => .next s
  | .assertReset => .next s.applyReset
  | .offerCommand d => .next (s.setCmdChannel (s.cmdChannel ++ [d]))
  | .offerKey k => .next (s.setKeyChannel (s.keyChannel ++ [k]))
  | .withdrawCommand => .next (s.setCmdChannel s.cmdChannel.tail)
  | .withdrawKey => .next (s.setKeyChannel s.keyChannel.tail)

/-- One step of the machine: the host's next move, or the block's own step when the host has no move (log 4). -/
def sequencerStep (s : State) : StepOutcome :=
  match s.host with
  | [] => blockStep s
  | m :: ms => hostTurn m (s.setHost ms)

/-- Offer a descriptor so that the block's very next step finds it at the front of its command channel (log 5). -/
def State.offerNext (s : State) (d : Descriptor) : State :=
  (s.setCmdChannel (d :: s.cmdChannel)).setHost (.proceed :: s.host)

end Sys2Proof.Machine
end

