-- ==== Sys2Proof/Machine/Step.lean ====
section
/-! DEFINITION. The step of the machine, and placing an instruction where the next step takes it. -/

namespace Sys2Proof.Machine

/-- One step: a move of the host or a CMD, KEY or FINISH step of the block (spec/40_sequencer.md R100). -/
def step (s : State) : Host.Outcome State Fault Refusal := sequencerStep s

/-- `s` with an opcode-table word offered on the command channel, so that the next step accepts it when the block is
ready for a command; the block fetches nothing of its own (spec/20_memory.md R65; log 5). -/
def State.withFetchWord (s : State) (nbits w : Nat) : State := s.offerNext (tableDescriptor nbits w)

end Sys2Proof.Machine
end

