-- ==== Sys2Proof/Machine/Assembler.lean ====
section
/-! DEFINITION. The assembler of the call notation (spec/30_encoding.md R81, R82, R83): a line is read into a `Call`, and
a `Call` becomes one descriptor and its key beats. -/

namespace Sys2Proof.Machine

/-- A number as a 32-bit word. -/
def wordOfNat (n : Nat) : Word := BitVec.ofNat 32 n

/-- A seed argument that is left out is 0 (R82). -/
def seedWord (s : Option Nat) : Word := wordOfNat (s.getD 0)

/-- The byte values of a buffer: a list's own, a string's 7-bit ASCII codes, one byte each, no terminator (R81). -/
def bufferValues : ByteSeq → List Nat
  | .list bs => bs
  | .text cs => cs.map Char.toNat

/-- The LEN operand of a list of elements (R81). -/
def lenWord {α : Type} (xs : List α) : Word := wordOfNat xs.length

/-- The command of a call (R81). -/
def callInstr : Call → Instr
  | .mix a b c => .mix (wordOfNat a) (wordOfNat b) (wordOfNat c)
  | .final a b c => .final (wordOfNat a) (wordOfNat b) (wordOfNat c)
  | .hashword ws s1 => .hashword (lenWord ws) (seedWord s1)
  | .hashword2 ws s1 s2 => .hashword2 (lenWord ws) (seedWord s1) (seedWord s2)
  | .hashlittle bs s1 => .hashlittle (lenWord (bufferValues bs)) (seedWord s1)
  | .hashlittle2 bs s1 s2 => .hashlittle2 (lenWord (bufferValues bs)) (seedWord s1) (seedWord s2)
  | .hashbig bs s1 => .hashbig (lenWord (bufferValues bs)) (seedWord s1)
  | .oneatatime bs => .oneatatime (lenWord (bufferValues bs))

/-- The key beats of a call, in list order, each byte zero-extended to 32 bits (R81). -/
def callBeats : Call → List Word
  | .mix _ _ _ => []
  | .final _ _ _ => []
  | .hashword ws _ => ws.map wordOfNat
  | .hashword2 ws _ _ => ws.map wordOfNat
  | .hashlittle bs _ => (bufferValues bs).map wordOfNat
  | .hashlittle2 bs _ _ => (bufferValues bs).map wordOfNat
  | .hashbig bs _ => (bufferValues bs).map wordOfNat
  | .oneatatime bs => (bufferValues bs).map wordOfNat

/-- Assemble a call into one descriptor and its key beats (R81); an ill-formed call is refused (R83). -/
def assemble (call : Call) : Option (Descriptor × List Word) :=
  if call.wellFormed then some (encode (callInstr call), callBeats call) else none

/-! ## Reading a line (log 22) -/

/-- The tokens of the notation. -/
inductive Token where
  | ident (cs : List Char)
  | num (n : Nat)
  | str (cs : List Char)
  | lparen
  | rparen
  | lbrack
  | rbrack
  | comma
deriving DecidableEq, Repr

/-- A decimal digit's value. -/
def digitValue (c : Char) : Option Nat :=
  if 48 ≤ c.toNat ∧ c.toNat ≤ 57 then some (c.toNat - 48) else none

/-- A hexadecimal digit's value, either case. -/
def hexValue (c : Char) : Option Nat :=
  if 97 ≤ c.toNat ∧ c.toNat ≤ 102 then some (c.toNat - 87)
  else if 65 ≤ c.toNat ∧ c.toNat ≤ 70 then some (c.toNat - 55)
  else digitValue c

/-- The lower-case form of a letter: mnemonics are case-insensitive (R81). -/
def lowerChar (c : Char) : Char :=
  if 65 ≤ c.toNat ∧ c.toNat ≤ 90 then Char.ofNat (c.toNat + 32) else c

/-- A character that can stand in a mnemonic or a number. -/
def wordChar (c : Char) : Bool :=
  decide ((48 ≤ c.toNat ∧ c.toNat ≤ 57) ∨ (65 ≤ c.toNat ∧ c.toNat ≤ 90) ∨ (97 ≤ c.toNat ∧ c.toNat ≤ 122))

/-- A number of base `b` from its digits, most significant first; none for a character that is no digit. -/
def numberFrom (b : Nat) (value : Char → Option Nat) : Nat → List Char → Option Nat
  | n, [] => some n
  | n, c :: cs =>
    match value c with
    | some v => numberFrom b value (b * n + v) cs
    | none => none

/-- A run of word characters is a hexadecimal number, a decimal number or a name (R81). -/
def wordToken (cs : List Char) : Option Token :=
  match cs with
  | [] => none
  | '0' :: 'x' :: d :: ds => (numberFrom 16 hexValue 0 (d :: ds)).map .num
  | d :: ds =>
    match digitValue d with
    | some _ => (numberFrom 10 digitValue 0 (d :: ds)).map .num
    | none => some (.ident ((d :: ds).map lowerChar))

/-- Where the reader of characters stands. -/
inductive LexState where
  | between
  | inWord (seen : List Char)
  | inString (seen : List Char)
deriving DecidableEq, Repr

/-- A character between words: a blank gives no token. -/
def separator (c : Char) : Option (List Token) :=
  match c with
  | ' ' => some []
  | '(' => some [.lparen]
  | ')' => some [.rparen]
  | '[' => some [.lbrack]
  | ']' => some [.rbrack]
  | ',' => some [.comma]
  | _ => none

/-- The tokens of a line. -/
def tokens : LexState → List Char → Option (List Token)
  | .between, [] => some []
  | .inWord seen, [] => (wordToken seen).map fun t => [t]
  | .inString _, [] => none
  | .between, c :: cs =>
    if wordChar c then tokens (.inWord [c]) cs
    else if c = '"' then tokens (.inString []) cs
    else
      match separator c, tokens .between cs with
      | some ts, some rest => some (ts ++ rest)
      | _, _ => none
  | .inWord seen, c :: cs =>
    if wordChar c then tokens (.inWord (seen ++ [c])) cs
    else
      match wordToken seen, separator c, tokens .between cs with
      | some t, some ts, some rest => some (t :: (ts ++ rest))
      | _, _, _ => none
  | .inString seen, c :: cs =>
    if c = '"' then (tokens .between cs).map fun rest => .str seen :: rest
    else tokens (.inString (seen ++ [c])) cs

/-- An argument of a call. -/
inductive Arg where
  | num (n : Nat)
  | list (ns : List Nat)
  | text (cs : List Char)
deriving DecidableEq, Repr

/-- Where the reader of arguments stands. -/
inductive ArgState where
  | wantArg
  | afterArg
  | listStart
  | listAfter (seen : List Nat)
  | listWant (seen : List Nat)
deriving DecidableEq, Repr

/-- The arguments up to the closing parenthesis, which ends the line. -/
def arguments : ArgState → List Token → Option (List Arg)
  | .afterArg, [.rparen] => some []
  | .wantArg, .num n :: r => (arguments .afterArg r).map fun as => .num n :: as
  | .wantArg, .str cs :: r => (arguments .afterArg r).map fun as => .text cs :: as
  | .wantArg, .lbrack :: r => arguments .listStart r
  | .listStart, .rbrack :: r => (arguments .afterArg r).map fun as => .list [] :: as
  | .listStart, .num n :: r => arguments (.listAfter [n]) r
  | .listAfter seen, .comma :: r => arguments (.listWant seen) r
  | .listAfter seen, .rbrack :: r => (arguments .afterArg r).map fun as => .list seen :: as
  | .listWant seen, .num n :: r => arguments (.listAfter (seen ++ [n])) r
  | .afterArg, .comma :: r => arguments .wantArg r
  | _, _ => none

/-- A buffer argument: a list of byte values or a string literal (R81). -/
def Arg.bytes : Arg → Option ByteSeq
  | .list ns => some (.list ns)
  | .text cs => some (.text cs)
  | .num _ => none

/-- The opcode of a mnemonic in lower case (R71, R81). -/
def mnemonicOpcode (name : List Char) : Option Opcode :=
  if name = "mix".toList then some .mix
  else if name = "final".toList then some .final
  else if name = "hashword".toList then some .hashword
  else if name = "hashword2".toList then some .hashword2
  else if name = "hashlittle".toList then some .hashlittle
  else if name = "hashlittle2".toList then some .hashlittle2
  else if name = "hashbig".toList then some .hashbig
  else if name = "oneatatime".toList then some .oneatatime
  else none

/-- The call of a mnemonic and its arguments; the forms of R81 and the pseudo-forms of R82, and no other. -/
def callOf (o : Opcode) (args : List Arg) : Option Call :=
  match o, args with
  | .mix, [.num a, .num b, .num c] => some (.mix a b c)
  | .final, [.num a, .num b, .num c] => some (.final a b c)
  | .hashword, [.list ws] => some (.hashword ws none)
  | .hashword, [.list ws, .num s1] => some (.hashword ws (some s1))
  | .hashword2, [.list ws] => some (.hashword2 ws none none)
  | .hashword2, [.list ws, .num s1] => some (.hashword2 ws (some s1) none)
  | .hashword2, [.list ws, .num s1, .num s2] => some (.hashword2 ws (some s1) (some s2))
  | .hashlittle, [buf] => buf.bytes.map fun bs => .hashlittle bs none
  | .hashlittle, [buf, .num s1] => buf.bytes.map fun bs => .hashlittle bs (some s1)
  | .hashlittle2, [buf] => buf.bytes.map fun bs => .hashlittle2 bs none none
  | .hashlittle2, [buf, .num s1] => buf.bytes.map fun bs => .hashlittle2 bs (some s1) none
  | .hashlittle2, [buf, .num s1, .num s2] => buf.bytes.map fun bs => .hashlittle2 bs (some s1) (some s2)
  | .hashbig, [buf] => buf.bytes.map fun bs => .hashbig bs none
  | .hashbig, [buf, .num s1] => buf.bytes.map fun bs => .hashbig bs (some s1)
  | .oneatatime, [buf] => buf.bytes.map .oneatatime
  | _, _ => none

/-- Read one line of the notation: one command with its whole key stream (R81). -/
def readLine (line : List Char) : Option Call :=
  match tokens .between line with
  | some (.ident name :: .lparen :: r) =>
    match mnemonicOpcode name, arguments .wantArg r with
    | some o, some args => callOf o args
    | _, _ => none
  | _ => none

/-- Read and assemble one line (R81). -/
def assembleLine (line : List Char) : Option (Descriptor × List Word) :=
  match readLine line with
  | some call => assemble call
  | none => none

end Sys2Proof.Machine
end

