-- ==== Sys2Proof/Machine/Platform.lean ====
section
/-! DEFINITION. A platform with several instances (spec/00_scope.md R7, spec/20_memory.md R62, spec/60_exceptions.md
R240): each is a complete independent copy of the state, and the platform says which one steps (log 20). -/

namespace Sys2Proof.Machine

/-- Instance `k` of a platform takes one step; the others are not touched. A platform without an instance `k` does not
change. -/
def platformStep (k : Nat) (instances : List State) : Host.Outcome (List State) Fault Refusal :=
  match instances[k]? with
  | none => .next instances
  | some s =>
    match step s with
    | .next t => .next (instances.set k t)
    | .fault r => .fault r
    | .refused r => .refused r

end Sys2Proof.Machine
end

