-- ==== Sys2Proof/Machine/WholeCall.lean ====
section
/-! DEFINITION. The whole-call functions: what each command computes from its operands and its whole key stream
(spec/00_scope.md R16, spec/42_hashword.md R156, spec/43_hashlittle.md R181, spec/45_oneatatime.md R204,
spec/40_sequencer.md R109). They are written from those rules, in loop-and-match form, and share with the steps of the
sequencer only the transforms and the packers. -/

namespace Sys2Proof.Machine

/-- The main loop and the tail of `hashword2_fn` (R156): triples are added and mixed, the 0 to 2 words left are added by
position. -/
def foldWords : Lanes → List Word → Lanes
  | l, x :: y :: z :: rest => foldWords (mix3 { a := l.a + x, b := l.b + y, c := l.c + z }) rest
  | l, [x, y] => { l with a := l.a + x, b := l.b + y }
  | l, [x] => { l with a := l.a + x }
  | l, [] => l

/-- `hashword2_fn(e, s1, s2)`: the primary and the secondary digest (R156). It has no value for an empty sequence (R160,
U9) and for 2^32 words or more (R7, U6). -/
def hashword2Fn (e : List Word) (s1 s2 : Word) : Option (Word × Word) :=
  if e.length = 0 ∨ 2 ^ 32 ≤ e.length then none
  else
    let t := 0xdeadbeef + (BitVec.ofNat 32 e.length <<< 2) + s1
    let l := final3 (foldWords { a := t, b := t + s2, c := t } e)
    some (l.c, l.b)

/-- The word that the bytes of index 4m to 4m+3 of a tail form, a byte that does not exist being 0 (R172, R181, R192). -/
def tailWord (ord : ByteOrder) (t : List Byte) (m : Nat) : Word :=
  packWord ord (t.getD (4 * m) 0) (t.getD (4 * m + 1) 0) (t.getD (4 * m + 2) 0) (t.getD (4 * m + 3) 0)

/-- The tail of `hashbytes2_fn`, 0 to 11 bytes (R181). -/
def addTail (ord : ByteOrder) (l : Lanes) (t : List Byte) : Lanes :=
  { a := if 1 ≤ t.length then l.a + tailWord ord t 0 else l.a
    b := if 5 ≤ t.length then l.b + tailWord ord t 1 else l.b
    c := if 9 ≤ t.length then l.c + tailWord ord t 2 else l.c }

/-- The main loop and the tail of `hashbytes2_fn` (R181). -/
def foldBytes (ord : ByteOrder) : Lanes → List Byte → Lanes
  | l, b0 :: b1 :: b2 :: b3 :: b4 :: b5 :: b6 :: b7 :: b8 :: b9 :: b10 :: b11 :: rest =>
    foldBytes ord
      (mix3
        { a := l.a + packWord ord b0 b1 b2 b3
          b := l.b + packWord ord b4 b5 b6 b7
          c := l.c + packWord ord b8 b9 b10 b11 })
      rest
  | l, t => addTail ord l t

/-- `hashbytes2_fn(ord, e, s1, s2)`: the primary and the secondary digest (R181). It has no value for 2^32 bytes or more
(R7, U6). -/
def hashbytes2Fn (ord : ByteOrder) (e : List Byte) (s1 s2 : Word) : Option (Word × Word) :=
  if 2 ^ 32 ≤ e.length then none
  else
    let t := 0xdeadbeef + BitVec.ofNat 32 e.length + s1
    let l := final3 (foldBytes ord { a := t, b := t + s2, c := t } e)
    some (l.c, l.b)

/-- The same bytes added one at a time, each shifted to its position, into the lane of its index, with `mix` after every
twelfth; `i` is the index of the first (R174, R175, R195). -/
def foldBytesDirectly (ord : ByteOrder) : Nat → Lanes → List Byte → Lanes
  | _, l, [] => l
  | i, l, x :: rest =>
    let l := l.addTo (laneOfNat (i % 12 / 4)) (placeByte ord (i % 4) x)
    foldBytesDirectly ord (i + 1) (if (i + 1) % 12 = 0 then mix3 l else l) rest

/-- The words of a buffer whose length is a multiple of 4 (R162, R197). -/
def packAll (ord : ByteOrder) : List Byte → List Word
  | b0 :: b1 :: b2 :: b3 :: rest => packWord ord b0 b1 b2 b3 :: packAll ord rest
  | _ => []

/-- `oneatatime_fn(e)` (R204). -/
def oneatatimeFn (e : List Byte) : Word := oaatFin (e.foldl oaatStep 0)

/-- How many key beats a command takes (R50, R72). -/
def beatCount : Instr → Word
  | .mix _ _ _ => 0
  | .final _ _ _ => 0
  | .hashword len _ => len
  | .hashword2 len _ _ => len
  | .hashlittle len _ => len
  | .hashlittle2 len _ _ => len
  | .hashbig len _ => len
  | .oneatatime len => len

/-- The lanes as the three result words of MIX and FINAL (R30). -/
def Lanes.toList (l : Lanes) : List Word := [l.a, l.b, l.c]

/-- The result words of a command as a function of its opcode, operands and key payloads alone, in the order word 0,
word 1, word 2 (R109). It has no value when the number of payloads is not the command's, or when the command raises. -/
def commandFn (i : Instr) (payloads : List Word) : Option (List Word) :=
  if payloads.length = (beatCount i).toNat then
    let bytes := payloads.map elementByte
    match i with
    | .mix a b c => some (mix3 { a := a, b := b, c := c }).toList
    | .final a b c => some (final3 { a := a, b := b, c := c }).toList
    | .hashword _ s1 => (hashword2Fn payloads s1 0).map fun r => [r.1]
    | .hashword2 _ s1 s2 => (hashword2Fn payloads s1 s2).map fun r => [r.1, r.2]
    | .hashlittle _ s1 => (hashbytes2Fn .little bytes s1 0).map fun r => [r.1]
    | .hashlittle2 _ s1 s2 => (hashbytes2Fn .little bytes s1 s2).map fun r => [r.1, r.2]
    | .hashbig _ s1 => (hashbytes2Fn .big bytes s1 0).map fun r => [r.1]
    | .oneatatime _ => some [oneatatimeFn bytes]
  else none

end Sys2Proof.Machine
end

