-- ==== Sys2Proof/Safety.lean ====
section
/-! DEFINITION. What the claims speak of: the invariant of a run, that the block goes on, and what the host can observe. -/

namespace Sys2Proof.Machine

/-- The outcome is a next state: neither a fault nor a refusal. -/
abbrev GoesOn (o : StepOutcome) : Prop := ∃ t, o = .next t

/-- A running command of opcode `o`. -/
abbrev State.Running (s : State) (o : Opcode) : Prop := s.phase = .run ∧ s.op = o.bits

/-- "ERR is nonzero exactly when PHASE = ERR; NRES is nonzero only when PHASE = DONE" (R28); and only the two errors
this hardware raises occur (R221). -/
abbrev State.StatusInv (s : State) : Prop :=
  (s.err ≠ .none ↔ s.phase = .err) ∧ (s.nres ≠ 0 → s.phase = .done) ∧
    (s.err = .none ∨ s.err = .invalidInput ∨ s.err = .illegalCommand)

/-- While a command runs, `op` names a command, `idx` is at most `len` (R24, R105), `len` is 0 for MIX and FINAL (R27)
and not 0 for the word commands (R160), and a one-seed command has second seed 0 (R27). -/
abbrev State.RunInv (s : State) : Prop :=
  s.phase = .run →
    (Opcode.ofBits? s.op).isSome ∧ s.idx ≤ s.len ∧
      (s.op = Opcode.mix.bits ∨ s.op = Opcode.final.bits → s.len = 0) ∧
      (s.op = Opcode.hashword.bits ∨ s.op = Opcode.hashword2.bits → s.len ≠ 0) ∧
      (s.op = Opcode.hashword.bits ∨ s.op = Opcode.hashlittle.bits ∨ s.op = Opcode.hashbig.bits → s.seed2 = 0)

/-- Between the steps of a byte command `pk` has zeros wherever the current word has not yet received its byte (R31,
R173, R193). -/
abbrev State.PackInv (s : State) : Prop :=
  (s.Running .hashlittle ∨ s.Running .hashlittle2 → s.pk.toNat < 2 ^ (8 * bytePosition s.idx)) ∧
    (s.Running .hashbig → s.pk.toNat % 2 ^ (32 - 8 * bytePosition s.idx) = 0)

/-- After a command is completed all its elements were consumed and `nres` is its number of result words (R30, R107). -/
abbrev State.DoneInv (s : State) : Prop :=
  s.phase = .done → s.idx = s.len ∧ (Opcode.ofBits? s.op).map Opcode.results = some s.nres.toNat

/-- The invariant of the block: it holds after reset and every step keeps it. -/
abbrev State.Inv (s : State) : Prop := s.StatusInv ∧ s.RunInv ∧ s.PackInv ∧ s.DoneInv

/-- Everything the host can see of an instance: STATUS, the result words it may read, and the ready conditions (R20,
R77, R101, R103). -/
structure Observation where
  status : Word
  word0 : Except Refusal Word
  word1 : Except Refusal Word
  word2 : Except Refusal Word
  cmdReady : Bool
  keyReady : Bool
deriving DecidableEq, Repr

/-- What the host sees. -/
def observe (s : State) : Observation where
  status := readStatus s
  word0 := readResult 0 s
  word1 := readResult 1 s
  word2 := readResult 2 s
  cmdReady := s.cmdReady
  keyReady := s.keyReady

/-- The registers the host cannot see, which R33 says carry nothing from one command to the next. -/
structure HiddenRegisters where
  a : Word
  b : Word
  c : Word
  h : Word
  pk : Word
  op : BitVec 8
  len : Word
  seed1 : Word
  seed2 : Word
  idx : Word
deriving DecidableEq, Repr

/-- `s` with other contents of the hidden registers. -/
def State.withHidden (s : State) (r : HiddenRegisters) : State :=
  { s with
    a := r.a, b := r.b, c := r.c, h := r.h, pk := r.pk
    op := r.op, len := r.len, seed1 := r.seed1, seed2 := r.seed2, idx := r.idx }

/-- The key payloads that a list of host moves offers, in order. -/
def offeredKeys : List HostMove → List Word
  | [] => []
  | .offerKey k :: ms => k :: offeredKeys ms
  | _ :: ms => offeredKeys ms

/-- A move that neither resets the block nor takes an offered payload back. -/
abbrev HostMove.Feeds (m : HostMove) : Prop := m ≠ .assertReset ∧ m ≠ .withdrawKey

/-- It is the block's own turn, and the host's further moves are `ms`. -/
abbrev State.BlockTurn (s : State) (ms : List HostMove) : Prop := s.host = .proceed :: ms ∨ s.host = [] ∧ ms = []

/-- The result words the host can read, word 0 first (R77). -/
def State.results (s : State) : List Word := ([s.res0, s.res1, s.res2]).take s.nres.toNat

/-- The host leaves the block alone: it makes no further move, so every step is the block's own. -/
abbrev State.Undisturbed (s : State) : Prop := s.host = []

/-- `d` is written for the command `i`, and read back as it. -/
abbrev DescriptorOf (d : Descriptor) (i : Instr) : Prop := d = encode i ∧ decode d = .ok i

/-- The byte values a buffer of the call notation stands for: those of a list, or the codes of a string (R81). -/
abbrev Spells (buf : ByteSeq) (bs : List Nat) : Prop :=
  buf = .list bs ∨ ∃ cs, buf = .text cs ∧ bs = cs.map Char.toNat

/-- KEY steps with the payloads of a list, in order (R105). -/
def keySteps : List Word → State → StepOutcome
  | [], s => .next s
  | k :: ks, s =>
    match keyStep k s with
    | .next t => keySteps ks t
    | .fault r => .fault r
    | .refused r => .refused r

/-- `k` steps of the machine lead from `s` to `t`. -/
abbrev State.Runs (s : State) (k : Nat) (t : State) : Prop := Sys2Proof.core.run k s = .next t

end Sys2Proof.Machine
end

