-- ==== Sys2Proof/Certificates/Slice0/Obligations.lean ====
section
/-! DEFINITION. The statements for the provers: what the commands and the block do, from the numbered rules of spec/. -/

open Sys2Proof Sys2Proof.Machine

/-! ## Encoding (spec/30_encoding.md) -/

/-- Decoding the descriptor of a command gives the command back, with every operand at every value. -/
def Obligations.DecodeOfEncodeIsTheInstruction : Prop := ∀ i : Instr, decode (encode i) = .ok i

/-- R71: "A decoder selects a command by comparing the whole of D0 with the opcode value"; the operands are D1, D2, D3
unchanged (R74) and take no part in the selection. -/
def Obligations.DecodeComparesTheWholeOfD0 : Prop :=
  ∀ (d : Descriptor) (i : Instr),
    decode d = .ok i ↔
      d.d0 = i.opcode.bits.setWidth 32 ∧ i = i.opcode.withOperands d.d1 d.d2 d.d3

/-- Six descriptors written out from R70 to R72, and two that select no command (R78). -/
def Obligations.WrittenOutDescriptorsDecode : Prop :=
  decode 0x00000003000000020000000100000000 = .ok (.mix 1 2 3) ∧
    decode 0x00000003000000020000000100000001 = .ok (.final 1 2 3) ∧
    decode 0xffffffff000000050000000100000002 = .ok (.hashword 1 5) ∧
    decode 0x00000006000000050000000200000003 = .ok (.hashword2 2 5 6) ∧
    decode 0x00000002000000010000000300000005 = .ok (.hashlittle2 3 1 2) ∧
    decode 0x0000bbbb0000aaaa0000000100000007 = .ok (.oneatatime 1) ∧
    decode 0x00000000000000000000000000000108 = .error .reservedBits ∧
    decode 0x00000000000000000000000000000008 = .error .unassignedOpcode

/-- R73: an unused operand word "is ignored: it has no effect on any state, whatever its value, and is not checked. An
assembler writes 0 there." -/
def Obligations.UnusedOperandWordsAreIgnored : Prop :=
  (∀ (o : Opcode), o = .hashword ∨ o = .hashlittle ∨ o = .hashbig →
      ∀ (len seed1 x y : Word) (s : State),
        cmdStep (.ofWords o.d0 len seed1 x) s = cmdStep (.ofWords o.d0 len seed1 y) s) ∧
    (∀ (len x2 x3 y2 y3 : Word) (s : State),
      cmdStep (.ofWords Opcode.oneatatime.d0 len x2 x3) s = cmdStep (.ofWords Opcode.oneatatime.d0 len y2 y3) s) ∧
    (∀ len seed1 : Word,
      (encode (.hashword len seed1)).d3 = 0 ∧ (encode (.hashlittle len seed1)).d3 = 0 ∧
        (encode (.hashbig len seed1)).d3 = 0) ∧
    ∀ len : Word, (encode (.oneatatime len)).d2 = 0 ∧ (encode (.oneatatime len)).d3 = 0

/-! ## The CMD step (spec/40_sequencer.md R101, R102; spec/60_exceptions.md) -/

/-- When the block is ready and a descriptor of a command is at the front of the command channel, the block's step
accepts it and is `exec` of the command on the state without it, with the host's moves moved on. -/
def Obligations.StepRunsTheDecodedInstruction : Prop :=
  ∀ (s : State) (d : Descriptor) (ds : List Descriptor) (i : Instr) (ms : List HostMove),
    s.phase ≠ .run → s.cmdChannel = d :: ds → decode d = .ok i → s.BlockTurn ms →
      step s = exec i { s with cmdChannel := ds, host := ms }

/-- Everything a step can be. On the block's turn it is FINISH, KEY, CMD, or waiting with every register kept; any other
host move leaves all 16 registers unchanged, but for reset, and does to the channels what it names: an offer goes behind
what is offered already, a withdrawal takes the front item, a pause does nothing. That an enabled step is taken at once on
the block's turn, and that the host's offers and moves stand in lists, one move a step, is the model's choice (logs 4, 6,
8, 24). -/
def Obligations.StepTakesTheEnabledStep : Prop :=
  (∀ (s : State) (ms : List HostMove), s.BlockTurn ms →
    (s.phase = .run → s.idx = s.len → step s = finishStep { s with host := ms }) ∧
      (∀ k ks, s.phase = .run → s.idx < s.len → s.keyChannel = k :: ks →
        step s = keyStep k { s with keyChannel := ks, host := ms }) ∧
      (∀ d ds, s.phase ≠ .run → s.cmdChannel = d :: ds →
        step s = cmdStep d { s with cmdChannel := ds, host := ms }) ∧
      (s.phase = .run ∧ s.idx ≠ s.len ∧ (s.keyChannel = [] ∨ s.len < s.idx) ∨ s.phase ≠ .run ∧ s.cmdChannel = [] →
        step s = .next { s with host := ms })) ∧
    ∀ (s : State) (ms : List HostMove),
      (s.host = .pause :: ms → step s = .next { s with host := ms }) ∧
        (∀ d, s.host = .offerCommand d :: ms →
          step s = .next { s with cmdChannel := s.cmdChannel ++ [d], host := ms }) ∧
        (∀ k, s.host = .offerKey k :: ms →
          step s = .next { s with keyChannel := s.keyChannel ++ [k], host := ms }) ∧
        (s.host = .withdrawCommand :: ms →
          step s = .next { s with cmdChannel := s.cmdChannel.tail, host := ms }) ∧
        (s.host = .withdrawKey :: ms →
          step s = .next { s with keyChannel := s.keyChannel.tail, host := ms }) ∧
        (s.host = .assertReset :: ms → step s = .next { s.applyReset with host := ms })

/-- MIX and FINAL are accepted in every phase but RUN: R102's assignments, and nothing else changes. -/
def Obligations.TripleCommandsLatchTheirLanes : Prop :=
  ∀ (x y z : Word) (s : State), s.phase ≠ .run →
    exec (.mix x y z) s = .next
        { s with op := 0x00, a := x, b := y, c := z, len := 0, idx := 0, err := .none, nres := 0, phase := .run } ∧
      exec (.final x y z) s = .next
        { s with op := 0x01, a := x, b := y, c := z, len := 0, idx := 0, err := .none, nres := 0, phase := .run }

/-- HASHWORD and HASHWORD2 with LEN >= 1: the lanes from length and seeds (R151, R152), the operands latched, and
nothing else changes. -/
def Obligations.WordCommandsInitialiseTheirLanes : Prop :=
  ∀ (len seed1 seed2 : Word) (s : State), s.phase ≠ .run → len ≠ 0 →
    exec (.hashword len seed1) s = .next
        { s with
          op := 0x02, len := len, seed1 := seed1, seed2 := 0
          a := 0xdeadbeef + (len <<< 2) + seed1, b := 0xdeadbeef + (len <<< 2) + seed1
          c := 0xdeadbeef + (len <<< 2) + seed1, idx := 0, err := .none, nres := 0, phase := .run } ∧
      exec (.hashword2 len seed1 seed2) s = .next
        { s with
          op := 0x03, len := len, seed1 := seed1, seed2 := seed2
          a := 0xdeadbeef + (len <<< 2) + seed1, b := 0xdeadbeef + (len <<< 2) + seed1 + seed2
          c := 0xdeadbeef + (len <<< 2) + seed1, idx := 0, err := .none, nres := 0, phase := .run }

/-- The three lookup3 byte commands, with any LEN: the lanes from length and seeds (R176), `pk` 0, the operands latched,
and nothing else changes. -/
def Obligations.ByteCommandsInitialiseTheirLanes : Prop :=
  ∀ (len seed1 seed2 : Word) (s : State), s.phase ≠ .run →
    exec (.hashlittle len seed1) s = .next
        { s with
          op := 0x04, len := len, seed1 := seed1, seed2 := 0, pk := 0
          a := 0xdeadbeef + len + seed1, b := 0xdeadbeef + len + seed1, c := 0xdeadbeef + len + seed1
          idx := 0, err := .none, nres := 0, phase := .run } ∧
      exec (.hashlittle2 len seed1 seed2) s = .next
        { s with
          op := 0x05, len := len, seed1 := seed1, seed2 := seed2, pk := 0
          a := 0xdeadbeef + len + seed1, b := 0xdeadbeef + len + seed1 + seed2, c := 0xdeadbeef + len + seed1
          idx := 0, err := .none, nres := 0, phase := .run } ∧
      exec (.hashbig len seed1) s = .next
        { s with
          op := 0x06, len := len, seed1 := seed1, seed2 := 0, pk := 0
          a := 0xdeadbeef + len + seed1, b := 0xdeadbeef + len + seed1, c := 0xdeadbeef + len + seed1
          idx := 0, err := .none, nres := 0, phase := .run }

/-- ONEATATIME with any LEN: `h` 0, the length latched, and nothing else changes, the lanes and `pk` among it (R200). -/
def Obligations.OneatatimeClearsTheAccumulator : Prop :=
  ∀ (len : Word) (s : State), s.phase ≠ .run →
    exec (.oneatatime len) s = .next
      { s with op := 0x07, len := len, h := 0, idx := 0, err := .none, nres := 0, phase := .run }

/-- R160: "HASHWORD and HASHWORD2 with LEN = 0 raise InvalidInput (code 1) in the CMD step and produce no digest", no
lane is written, and no key beat is accepted afterwards: whatever is offered on the key channel stays there. -/
def Obligations.EmptyWordSequenceRaisesInvalidInput : Prop :=
  ∀ (seed1 seed2 : Word) (s : State), s.phase ≠ .run →
    ∃ t t', exec (.hashword 0 seed1) s = .next t ∧ exec (.hashword2 0 seed1 seed2) s = .next t' ∧
      t = { s with
              op := 0x02, len := 0, seed1 := seed1, seed2 := 0, err := .invalidInput, nres := 0, phase := .err } ∧
      t' = { s with
              op := 0x03, len := 0, seed1 := seed1, seed2 := seed2, err := .invalidInput, nres := 0, phase := .err } ∧
      ErrorCode.invalidInput.code = 1 ∧
      (∀ k, readResult k t = .error .resultHasNoValue ∧ readResult k t' = .error .resultHasNoValue) ∧
      (t.keyReady = false ∧ t'.keyReady = false) ∧
      ∀ ms u, t.BlockTurn ms ∨ t'.BlockTurn ms →
        step t = .next u ∨ step t' = .next u → u.keyChannel = s.keyChannel

/-- R225: the cause of IllegalCommand, and what raising it does: nothing but `phase`, `err` and `nres` is written. D1, D2
and D3 play no part. -/
def Obligations.IllegalDescriptorRaisesIllegalCommand : Prop :=
  ∀ (d : Descriptor) (s : State), s.phase ≠ .run →
    (d.d0.extractLsb' 8 24 ≠ 0 ∨ 0x07 < (d.d0.extractLsb' 0 8).toNat →
      cmdStep d s = .next { s with phase := .err, err := .illegalCommand, nres := 0 }) ∧
    (¬ (d.d0.extractLsb' 8 24 ≠ 0 ∨ 0x07 < (d.d0.extractLsb' 0 8).toNat) →
      ∃ t, cmdStep d s = .next t ∧ t.err ≠ .illegalCommand)

/-- R229: "At most one error is reported per CMD step", IllegalCommand first, InvalidInput second: the error of an
accepted descriptor as a function of the descriptor. -/
def Obligations.IllegalCommandIsReportedBeforeInvalidInput : Prop :=
  ∀ (d : Descriptor) (s : State), s.phase ≠ .run →
    ∃ t, cmdStep d s = .next t ∧
      t.err =
        (if d.rsv ≠ 0 ∨ 0x08 ≤ d.opc.toNat then ErrorCode.illegalCommand
        else if (d.opc = 0x02 ∨ d.opc = 0x03) ∧ d.d1 = 0 then ErrorCode.invalidInput
        else ErrorCode.none) ∧
      t.phase = (if t.err = .none then Phase.run else Phase.err)

/-- A descriptor offered while phase = RUN "is not accepted and changes nothing; it stays offered": no command
starts, and the block's step leaves the command channel alone. -/
def Obligations.DescriptorsOfferedWhileRunningStayOffered : Prop :=
  ∀ (s : State), s.phase = .run →
    (∀ i : Instr, exec i s = .next s) ∧ (∀ d : Descriptor, cmdStep d s = .next s) ∧
      ∀ (ms : List HostMove) (t : State), s.BlockTurn ms → step s = .next t → t.cmdChannel = s.cmdChannel

/-! ## The KEY step (spec/40_sequencer.md R103, R104) -/

/-- R153: the KEY step of the word commands adds the word to the lane `idx mod 3` and applies `mix3` when the triple is
complete, also when it ends the input. Nothing else changes but `idx`. -/
def Obligations.WordElementIsAddedToItsLane : Prop :=
  ∀ (s : State) (w : Word), s.Running .hashword ∨ s.Running .hashword2 → s.idx < s.len →
    ∃ l : Lanes,
      l = (let l := s.lanes.addTo (laneOfNat (s.idx.toNat % 3)) w
           if (s.idx.toNat + 1) % 3 = 0 then mix3 l else l) ∧
      keyStep w s = .next { s with a := l.a, b := l.b, c := l.c, idx := s.idx + 1 }

/-- The KEY step of HASHLITTLE and HASHLITTLE2. The low byte of the payload goes into `pk` at bit `8 * (idx mod 4)`; a
full word is added to the lane `(idx mod 12) div 4` and `pk` cleared; `mix3` follows a full block. Nothing else changes
but `idx`. -/
def Obligations.LittleEndianByteIsPacked : Prop :=
  ∀ (s : State) (k : Word), s.Running .hashlittle ∨ s.Running .hashlittle2 → s.idx < s.len →
    ∃ (p : Word) (l : Lanes),
      p = s.pk ||| (((k.extractLsb' 0 8).setWidth 32) <<< (8 * (s.idx.toNat % 4))) ∧
      l = (let l := if s.idx.toNat % 4 = 3 then s.lanes.addTo (laneOfNat (s.idx.toNat % 12 / 4)) p else s.lanes
           if (s.idx.toNat + 1) % 12 = 0 then mix3 l else l) ∧
      keyStep k s = .next
        { s with
          a := l.a, b := l.b, c := l.c, pk := if s.idx.toNat % 4 = 3 then 0 else p
          idx := s.idx + 1 }

/-- R193: the KEY step of HASHBIG differs from that of HASHLITTLE in the shift only: `8 * (3 - idx mod 4)`, which is 24,
16, 8, 0. -/
def Obligations.BigEndianByteIsPacked : Prop :=
  ∀ (s : State) (k : Word), s.Running .hashbig → s.idx < s.len →
    ∃ (p : Word) (l : Lanes),
      p = s.pk ||| (((k.extractLsb' 0 8).setWidth 32) <<< (8 * (3 - s.idx.toNat % 4))) ∧
      l = (let l := if s.idx.toNat % 4 = 3 then s.lanes.addTo (laneOfNat (s.idx.toNat % 12 / 4)) p else s.lanes
           if (s.idx.toNat + 1) % 12 = 0 then mix3 l else l) ∧
      keyStep k s = .next
        { s with
          a := l.a, b := l.b, c := l.c, pk := if s.idx.toNat % 4 = 3 then 0 else p
          idx := s.idx + 1 }

/-- R203: the KEY step of ONEATATIME folds the low byte of the payload into `h`; nothing else changes but `idx`, no lane
and not `pk`. -/
def Obligations.OneatatimeFoldsOneByte : Prop :=
  ∀ (s : State) (k : Word), s.Running .oneatatime → s.idx < s.len →
    keyStep k s = .next { s with h := oaatStep s.h (k.extractLsb' 0 8), idx := s.idx + 1 }

/-- In a byte command `kdata[31:8]` "has no effect on any state, whatever its value". -/
def Obligations.UpperPayloadBitsAreIgnoredByByteCommands : Prop :=
  ∀ (o : Opcode), o = .hashlittle ∨ o = .hashlittle2 ∨ o = .hashbig ∨ o = .oneatatime →
    ∀ (s : State), s.op = o.bits → ∀ k k' : Word, k.extractLsb' 0 8 = k'.extractLsb' 0 8 →
      keyStep k s = keyStep k' s

/-- A beat offered when `key_ready` is false is not accepted: the block's step leaves the key channel alone. When it is
true the beat at the front is accepted, at once by the model's choice (log 6). -/
def Obligations.KeyBeatsAreAcceptedOnlyWhenReady : Prop :=
  ∀ (s t : State) (ms : List HostMove), s.BlockTurn ms → step s = .next t →
    t.keyChannel = (if s.phase = .run ∧ s.idx < s.len then s.keyChannel.tail else s.keyChannel)

/-! ## The FINISH step (spec/40_sequencer.md R106, R107) -/

/-- The FINISH step of MIX, FINAL and the word commands: the transform, the result words, their number, phase DONE; nothing
else changes. -/
def Obligations.FinishOfTripleAndWordCommands : Prop :=
  ∀ s : State, s.phase = .run → s.idx = s.len → ∀ m f : Lanes, m = mix3 s.lanes → f = final3 s.lanes →
    (s.op = 0x00 → finishStep s = .next
      { s with
        a := m.a, b := m.b, c := m.c, res0 := m.a, res1 := m.b, res2 := m.c, nres := 3, phase := .done }) ∧
    (s.op = 0x01 → finishStep s = .next
      { s with
        a := f.a, b := f.b, c := f.c, res0 := f.a, res1 := f.b, res2 := f.c, nres := 3, phase := .done }) ∧
    (s.op = 0x02 → finishStep s = .next
      { s with a := f.a, b := f.b, c := f.c, res0 := f.c, nres := 1, phase := .done }) ∧
    (s.op = 0x03 → finishStep s = .next
      { s with a := f.a, b := f.b, c := f.c, res0 := f.c, res1 := f.b, nres := 2, phase := .done })

/-- The FINISH step of the byte commands: the partial word is flushed to the lane `(len mod 12) div 4` when LEN is no
multiple of 4, `final3` follows for every length, and c, for HASHLITTLE2 also b, is reported; ONEATATIME reports
`oaat_fin(h)`. Nothing else changes. -/
def Obligations.FinishOfByteCommands : Prop :=
  ∀ s : State, s.phase = .run → s.idx = s.len →
    ∀ (p : Word) (f : Lanes), p = (if s.len.toNat % 4 = 0 then s.pk else 0) →
      f = final3 (if s.len.toNat % 4 = 0 then s.lanes
                  else s.lanes.addTo (laneOfNat (s.len.toNat % 12 / 4)) s.pk) →
      (s.op = 0x04 ∨ s.op = 0x06 → finishStep s = .next
        { s with a := f.a, b := f.b, c := f.c, pk := p, res0 := f.c, nres := 1, phase := .done }) ∧
      (s.op = 0x05 → finishStep s = .next
        { s with a := f.a, b := f.b, c := f.c, pk := p, res0 := f.c, res1 := f.b, nres := 2, phase := .done }) ∧
      (s.op = 0x07 → finishStep s = .next
        { s with h := oaatFin s.h, res0 := oaatFin s.h, nres := 1, phase := .done })

/-! ## Whole commands (spec/41_mixer.md to spec/45_oneatatime.md) -/

/-- R132: `MIX` runs to DONE with (res0, res1, res2) = mix3(A, B, C), whatever the operands, and takes no key beat; every
register it does not name keeps its value. With the rule's corner cases and its example. The spec marks the operand pattern
of `mix` as supplied from general knowledge (GK1, log 11). -/
def Obligations.MixCompletes : Prop :=
  (∀ (x y z : Word) (s : State), s.phase ≠ .run →
    ∃ (t u : State) (m : Lanes), m = mix3 { a := x, b := y, c := z } ∧
      encode (.mix x y z) = .ofWords 0x00000000 x y z ∧
      exec (.mix x y z) s = .next t ∧ t.lanes = { a := x, b := y, c := z } ∧ t.keyReady = false ∧
      t.finishEnabled = true ∧ finishStep t = .next u ∧
      u = { s with
              op := 0x00, len := 0, idx := 0, a := m.a, b := m.b, c := m.c
              res0 := m.a, res1 := m.b, res2 := m.c, nres := 3, err := .none, phase := .done }) ∧
    mix3 { a := 0, b := 0, c := 0 } = { a := 0, b := 0, c := 0 } ∧
    mix3 { a := 0xffffffff, b := 0xffffffff, c := 0xffffffff } = { a := 0xfffffff9, b := 0x000ffff9, c := 0xfeeffffc } ∧
    mix3 { a := 1, b := 2, c := 3 } = { a := 0x877d02a0, b := 0xcd175a8d, c := 0xe3fc5c22 }

/-- R134: `FINAL` runs to DONE with (res0, res1, res2) = final3(A, B, C), all three words, and takes no key beat; every
register it does not name keeps its value. With the rule's corner cases and its example. The spec marks the operand pattern
of `final` as supplied from general knowledge (GK2, log 12). -/
def Obligations.FinalCompletes : Prop :=
  (∀ (x y z : Word) (s : State), s.phase ≠ .run →
    ∃ (t u : State) (f : Lanes), f = final3 { a := x, b := y, c := z } ∧
      encode (.final x y z) = .ofWords 0x00000001 x y z ∧
      exec (.final x y z) s = .next t ∧ t.lanes = { a := x, b := y, c := z } ∧ t.keyReady = false ∧
      t.finishEnabled = true ∧ finishStep t = .next u ∧
      u = { s with
              op := 0x01, len := 0, idx := 0, a := f.a, b := f.b, c := f.c
              res0 := f.a, res1 := f.b, res2 := f.c, nres := 3, err := .none, phase := .done }) ∧
    final3 { a := 0, b := 0, c := 0 } = { a := 0, b := 0, c := 0 } ∧
    final3 { a := 0xffffffff, b := 0xffffffff, c := 0xffffffff } =
      { a := 0x673190ae, b := 0x0105fef0, c := 0x08eaf2e5 } ∧
    final3 { a := 1, b := 2, c := 3 } = { a := 0xc0bbac72, b := 0xd6302d23, c := 0x36ff91db }

/-- `HASHWORD` fed LEN >= 1 words runs to DONE with res0 the first component of `hashword2_fn(e, SEED1, 0)`; it takes
exactly those beats, and every register it does not name keeps its value, `h`, `pk`, `res1` and `res2` among them. That it
takes LEN + 1 steps is the model's choice of when an enabled step happens (log 6). -/
def Obligations.HashwordCompletes : Prop :=
  ∀ (len seed1 : Word) (s : State) (e rest : List Word), s.phase ≠ .run → s.Undisturbed → len ≠ 0 →
    s.keyChannel = e ++ rest → e.length = len.toNat →
    ∃ (t u : State) (l : Lanes), exec (.hashword len seed1) s = .next t ∧ t.Runs (len.toNat + 1) u ∧
      hashword2Fn e seed1 0 = some (l.c, l.b) ∧
      u = { s with
              op := 0x02, len := len, seed1 := seed1, seed2 := 0, idx := len, a := l.a, b := l.b, c := l.c
              res0 := l.c, nres := 1, err := .none, phase := .done, keyChannel := rest }

/-- `HASHWORD2` fed LEN >= 1 words runs to DONE with (res0, res1) = `hashword2_fn(e, SEED1, SEED2)`. That it
takes LEN + 1 steps is the model's choice of when an enabled step happens (log 6). -/
def Obligations.Hashword2Completes : Prop :=
  ∀ (len seed1 seed2 : Word) (s : State) (e rest : List Word), s.phase ≠ .run → s.Undisturbed → len ≠ 0 →
    s.keyChannel = e ++ rest → e.length = len.toNat →
    ∃ (t u : State) (l : Lanes), exec (.hashword2 len seed1 seed2) s = .next t ∧ t.Runs (len.toNat + 1) u ∧
      hashword2Fn e seed1 seed2 = some (l.c, l.b) ∧
      u = { s with
              op := 0x03, len := len, seed1 := seed1, seed2 := seed2, idx := len, a := l.a, b := l.b, c := l.c
              res0 := l.c, res1 := l.b, nres := 2, err := .none, phase := .done, keyChannel := rest }

/-- `HASHLITTLE` and `HASHBIG` fed LEN bytes, LEN = 0 among it, run to DONE with res0 the first component of
`hashbytes2_fn(LE or BE, e, SEED1, 0)`; they take exactly those beats, and every register they do not name keeps its
value, `h`, `res1` and `res2` among them. That they take LEN + 1 steps is the model's choice of when an enabled step
happens (log 6). -/
def Obligations.HashlittleAndHashbigComplete : Prop :=
  ∀ (len seed1 : Word) (s : State) (e rest : List Word), s.phase ≠ .run → s.Undisturbed →
    s.keyChannel = e ++ rest → e.length = len.toNat →
    (∃ (t u : State) (l : Lanes), exec (.hashlittle len seed1) s = .next t ∧ t.Runs (len.toNat + 1) u ∧
      hashbytes2Fn .little (e.map elementByte) seed1 0 = some (l.c, l.b) ∧
      u = { s with
              op := 0x04, len := len, seed1 := seed1, seed2 := 0, idx := len, a := l.a, b := l.b, c := l.c, pk := 0
              res0 := l.c, nres := 1, err := .none, phase := .done, keyChannel := rest }) ∧
    ∃ (t u : State) (l : Lanes), exec (.hashbig len seed1) s = .next t ∧ t.Runs (len.toNat + 1) u ∧
      hashbytes2Fn .big (e.map elementByte) seed1 0 = some (l.c, l.b) ∧
      u = { s with
              op := 0x06, len := len, seed1 := seed1, seed2 := 0, idx := len, a := l.a, b := l.b, c := l.c, pk := 0
              res0 := l.c, nres := 1, err := .none, phase := .done, keyChannel := rest }

/-- `HASHLITTLE2` fed LEN bytes runs to DONE with (res0, res1) = `hashbytes2_fn(LE, e, SEED1, SEED2)`.
That it takes LEN + 1 steps is the model's choice of when an enabled step happens (log 6). -/
def Obligations.Hashlittle2Completes : Prop :=
  ∀ (len seed1 seed2 : Word) (s : State) (e rest : List Word), s.phase ≠ .run → s.Undisturbed →
    s.keyChannel = e ++ rest → e.length = len.toNat →
    ∃ (t u : State) (l : Lanes), exec (.hashlittle2 len seed1 seed2) s = .next t ∧ t.Runs (len.toNat + 1) u ∧
      hashbytes2Fn .little (e.map elementByte) seed1 seed2 = some (l.c, l.b) ∧
      u = { s with
              op := 0x05, len := len, seed1 := seed1, seed2 := seed2, idx := len, a := l.a, b := l.b, c := l.c, pk := 0
              res0 := l.c, res1 := l.b, nres := 2, err := .none, phase := .done, keyChannel := rest }

/-- R205: `ONEATATIME` fed LEN bytes, LEN = 0 among it, runs to DONE with res0 = `oneatatime_fn(e)`; the lanes, `pk`, the
seeds, `res1` and `res2` keep their values. With the rule's corner cases and its example. -/
def Obligations.OneatatimeCompletes : Prop :=
  (∀ (len : Word) (s : State) (e : List Word), s.phase ≠ .run → e.length = len.toNat →
    ∃ t v u : State, (∀ d2 d3, decode (.ofWords 0x00000007 len d2 d3) = .ok (.oneatatime len)) ∧
      exec (.oneatatime len) s = .next t ∧
      t = { s with op := 0x07, len := len, h := 0, idx := 0, err := .none, nres := 0, phase := .run } ∧
      keySteps e t = .next v ∧ v.finishEnabled = true ∧ finishStep v = .next u ∧
      u = { s with
              op := 0x07, len := len, idx := len, h := oneatatimeFn (e.map elementByte)
              res0 := oneatatimeFn (e.map elementByte), nres := 1, err := .none, phase := .done }) ∧
    oneatatimeFn [] = 0x00000000 ∧ (∀ n : Nat, oneatatimeFn (List.replicate n 0x00) = 0x00000000) ∧
    oaatFin 0 = 0x00000000 ∧ oaatStep 0 0x00 = 0x00000000 ∧
    oneatatimeFn [0xff] = 0xc7b20f1d ∧ oneatatimeFn [0x61] = 0xca2e9442 ∧
    oaatStep 0 0x61 = 0x00018270 ∧
    (let h : Word := 0x00000061
     h + (h <<< 10) = 0x00018461 ∧ (0x00018461 : Word) ^^^ ((0x00018461 : Word) >>> 6) = 0x00018270) ∧
    oaatFin 0x00018270 = 0xca2e9442 ∧
    (let h : Word := 0x00018270
     h + (h <<< 3) = 0x000d95f0 ∧ (0x000d95f0 : Word) ^^^ ((0x000d95f0 : Word) >>> 11) = 0x000d9442 ∧
       (0x000d9442 : Word) + ((0x000d9442 : Word) <<< 15) = 0xca2e9442)

/-- The command at the front of the command channel, fed its whole key stream, ends in DONE, 1 + LEN + 1 steps later, with
the result words `commandFn` gives: a function of opcode, operands and elements alone. The spec marks the rule as its own
inference ([derived], spec/40_sequencer.md section 1); the number of steps is the model's choice (log 6). -/
def Obligations.EveryFedCommandDeliversItsFunction : Prop :=
  ∀ (i : Instr) (s : State) (ds : List Descriptor) (e rest rs : List Word), s.phase ≠ .run → s.Undisturbed →
    s.cmdChannel = encode i :: ds → s.keyChannel = e ++ rest → commandFn i e = some rs →
    ∃ u, s.Runs (e.length + 2) u ∧ u.phase = .done ∧ u.err = .none ∧ u.results = rs ∧
      u.nres.toNat = i.opcode.results ∧ u.cmdChannel = ds ∧ u.keyChannel = rest

/-- When the beats arrive does not matter: with any mixture of moves that neither resets the block nor takes payloads
back, a running command ends in DONE with the same result words, as soon as enough payloads have been offered. The spec
marks this as its own inference ([derived], spec/40_sequencer.md section 1); that enabled steps happen is log 6, the
host's moves are log 4. -/
def Obligations.ArrivalTimesDoNotMatter : Prop :=
  ∀ (i : Instr) (s t : State) (e rest rs : List Word), s.phase ≠ .run → exec i s = .next t →
    (∀ m ∈ t.host, m.Feeds) → t.keyChannel ++ offeredKeys t.host = e ++ rest → commandFn i e = some rs →
    ∃ (k : Nat) (u : State), t.Runs k u ∧ u.phase = .done ∧ u.results = rs

/-- HASHWORD2 and HASHLITTLE2 with second seed 0 give HASHWORD's and HASHLITTLE's result as their first output, for every
input (spec/42_hashword.md section 1, spec/43_hashlittle.md section 3), and run in step with them: the same lanes and phase
after every step, whatever the host does, and the same first result word when done. That the lanes are equal also after the
host asserted reset is the model's choice and no rule of the spec, which leaves them unspecified then: both runs draw the
same free value for the same reset and register (logs 2, 3). -/
def Obligations.SecondSeedZeroRunsInStepWithTheSibling : Prop :=
  (∀ (len seed1 : Word) (e : List Word), e.length = len.toNat →
    (len ≠ 0 → ∃ x y, commandFn (.hashword len seed1) e = some [x] ∧
      commandFn (.hashword2 len seed1 0) e = some [x, y]) ∧
    ∃ x y, commandFn (.hashlittle len seed1) e = some [x] ∧ commandFn (.hashlittle2 len seed1 0) e = some [x, y]) ∧
  ∀ (len seed1 : Word) (s t t' : State), s.phase ≠ .run →
    (exec (.hashword len seed1) s = .next t ∧ exec (.hashword2 len seed1 0) s = .next t') ∨
      (exec (.hashlittle len seed1) s = .next t ∧ exec (.hashlittle2 len seed1 0) s = .next t') →
    ∀ (k : Nat) (u u' : State), t.Runs k u → t'.Runs k u' →
      u.lanes = u'.lanes ∧ u.phase = u'.phase ∧ (u.phase = .done → u.res0 = u'.res0)

/-! ## Rules of the whole block -/

/-- A command that lacks beats never ends: while the host makes no further move, phase stays RUN, nothing is reported and no
other descriptor is accepted, after any number of steps. That a block with nothing enabled keeps its state is read from the
spec (log 8). That the beats already offered are taken one at each of the first steps, which the last clause counts, is the
model's choice of when an enabled step happens (log 6). -/
def Obligations.StarvedCommandStaysRunning : Prop :=
  ∀ (s : State) (k : Nat) (t : State), s.phase = .run → s.Undisturbed →
    s.idx.toNat + s.keyChannel.length < s.len.toNat → s.Runs k t →
      t.phase = .run ∧ t.nres = s.nres ∧ t.cmdChannel = s.cmdChannel ∧ t.idx < t.len ∧
        t.idx.toNat = s.idx.toNat + min k s.keyChannel.length

/-- What a step can do to the phase: only reset gives IDLE, RUN is left only by reset or, on the block's turn, by the
FINISH step of a command whose elements are all consumed, and only accepting a descriptor, on the block's turn, starts a
command or an error. -/
def Obligations.PhaseChangesOnlyByItsSteps : Prop :=
  ∀ (s t : State), step s = .next t →
    t.phase = s.phase ∨
      (s.host.head? = some .assertReset ∧ t.phase = .idle) ∨
      (s.phase = .run ∧ s.idx = s.len ∧ (∃ ms, s.BlockTurn ms) ∧ t.phase = .done) ∨
      (s.phase ≠ .run ∧ s.cmdChannel ≠ [] ∧ (∃ ms, s.BlockTurn ms) ∧ (t.phase = .run ∨ t.phase = .err))

/-- R29: `err` is written by reset, to 0, and by every CMD step, to 0 or to the code raised, which is never one of the
boundary layer's; no other step writes it. -/
def Obligations.ErrIsWrittenByResetAndCommandsOnly : Prop :=
  (∀ (s t : State), s.host.head? = some .assertReset → step s = .next t → t.err = .none) ∧
    (∀ (s t : State) (d : Descriptor), s.phase ≠ .run → cmdStep d s = .next t →
      (t.phase = .run ∧ t.err = .none) ∨ (t.phase = .err ∧ (t.err = .invalidInput ∨ t.err = .illegalCommand))) ∧
    (∀ (s t : State) (k : Word), keyStep k s = .next t → t.err = s.err) ∧
    (∀ s t : State, finishStep s = .next t → t.err = s.err) ∧
    ∀ s t : State, step s = .next t → t.err ≠ s.err →
      s.host.head? = some .assertReset ∨ (s.phase ≠ .run ∧ s.cmdChannel ≠ [] ∧ ∃ ms, s.BlockTurn ms)

/-- While a command runs, a step that is neither reset nor the FINISH step changes nothing that the host can read: a KEY
step, waiting, and every other host move, also one made when all elements are consumed and FINISH has not yet happened. -/
def Obligations.KeyStepsAreInvisibleInStatus : Prop :=
  ∀ (s t : State), step s = .next t → s.phase = .run → ¬ (s.idx = s.len ∧ ∃ ms, s.BlockTurn ms) →
    s.host.head? ≠ some .assertReset →
      readStatus t = readStatus s ∧ t.err = s.err ∧ t.nres = s.nres ∧ t.phase = s.phase ∧
        t.res0 = s.res0 ∧ t.res1 = s.res1 ∧ t.res2 = s.res2 ∧ ∀ k, readResult k t = readResult k s

/-- The result words of a completed command keep their values until reset or until the next descriptor is accepted. -/
def Obligations.ResultsLastUntilTheNextCommand : Prop :=
  ∀ (s t : State), step s = .next t → s.phase = .done →
    s.host.head? ≠ some .assertReset → s.cmdChannel = [] ∨ (∃ m ms, s.host = m :: ms ∧ m ≠ .proceed) →
      t.phase = .done ∧ readStatus t = readStatus s ∧ ∀ k, readResult k t = readResult k s

/-- `h` is written by ONEATATIME only (R22), the lanes not by it (R21), `pk` by the lookup3 byte commands only (R31). -/
def Obligations.RegistersAreWrittenByTheirCommandsOnly : Prop :=
  ∀ (s t : State), step s = .next t → s.host.head? ≠ some .assertReset →
    (t.op ≠ Opcode.oneatatime.bits → t.h = s.h) ∧
      (t.op = Opcode.oneatatime.bits → t.lanes = s.lanes) ∧
      (t.op ≠ Opcode.hashlittle.bits → t.op ≠ Opcode.hashlittle2.bits → t.op ≠ Opcode.hashbig.bits → t.pk = s.pk)

/-- Nothing carries over: whatever the hidden registers hold when no command runs, the host sees the same after any number
of steps, with any moves of its own (R33; the spec marks the rule as its own inference, [derived]). -/
def Obligations.HiddenRegistersAreNeverSeen : Prop :=
  ∀ (s : State) (r : HiddenRegisters) (k : Nat) (u : State), s.phase ≠ .run → s.Runs k u →
    ∃ u', (s.withHidden r).Runs k u' ∧ observe u' = observe u

/-- The invariant holds after reset; it speaks of no register whose reset value is the model's choice (log 1). -/
def Obligations.ResetSatisfiesTheInvariant : Prop := State.reset.Inv

/-- Every step keeps the invariant, from every state that has it. -/
def Obligations.StepKeepsTheInvariant : Prop := ∀ s t : State, s.Inv → step s = .next t → t.Inv

/-- From every state with the invariant the machine goes on: no KEY and no FINISH step can fail (R220). -/
def Obligations.InvariantStatesNeverStop : Prop := ∀ s : State, s.Inv → GoesOn (step s)

/-- The values STATUS can have: IDLE, RUN, DONE with one, two or three results, and the two errors. The spec
marks the list as its own inference (spec/95_test_vectors.md section 8). -/
def Obligations.StatusHasSevenValues : Prop :=
  ∀ s : State, s.Inv →
    s.statusWord ∈ ([0x00000000, 0x00000001, 0x00000022, 0x00000042, 0x00000062, 0x00000007, 0x00000013] : List Word)

/-- R28: the fields of STATUS, what it reads after reset, and its invariants; with it the level outputs `busy`, `done`
and `error`, which are functions of the phase: exactly one of IDLE, `busy`, `done` and `error` holds at any time, and all
three are 0 after reset. -/
def Obligations.StatusRegisterLayout : Prop :=
  (∀ s : State, (readStatus s).extractLsb' 0 2 = s.phase.code ∧ (readStatus s).extractLsb' 2 3 = s.err.code ∧
      (readStatus s).extractLsb' 5 2 = s.nres ∧ (readStatus s).extractLsb' 7 25 = 0) ∧
    (Phase.idle.code = 0 ∧ Phase.run.code = 1 ∧ Phase.done.code = 2 ∧ Phase.err.code = 3) ∧
    (ErrorCode.none.code = 0 ∧ ErrorCode.invalidInput.code = 1 ∧ ErrorCode.outOfRange.code = 2 ∧
      ErrorCode.allocationFailure.code = 3 ∧ ErrorCode.illegalCommand.code = 4) ∧
    readStatus State.reset = 0x00000000 ∧
    (∀ s : State, s.Inv →
      ((readStatus s).extractLsb' 2 3 ≠ 0 ↔ (readStatus s).extractLsb' 0 2 = 3) ∧
        ((readStatus s).extractLsb' 5 2 ≠ 0 → (readStatus s).extractLsb' 0 2 = 2)) ∧
    (∀ s : State, (s.busy = true ↔ s.phase = .run) ∧ (s.doneFlag = true ↔ s.phase = .done) ∧
      (s.errorFlag = true ↔ s.phase = .err)) ∧
    (∀ s : State, [decide (s.phase = .idle), s.busy, s.doneFlag, s.errorFlag].count true = 1) ∧
    (State.reset.busy = false ∧ State.reset.doneFlag = false ∧ State.reset.errorFlag = false)

/-- Asserting reset, in any phase and at any point of a command, gives phase IDLE, err 0, nres 0; the block is then ready
for a descriptor, takes no key beat, drives no level output, STATUS reads 0 and no result word has a value. Reset is the
only event that produces phase IDLE and the only way out of RUN but completing the command. Two clauses are the model's
choice and no rule of the spec: every other register, which the spec leaves unspecified, holds the free value of this
reset and register (logs 2, 3), and reset is a move of the host that leaves both channels and its further moves as they
are (logs 4, 24). -/
def Obligations.AssertedResetAbandonsTheCommand : Prop :=
  (∀ (s : State) (ms : List HostMove), s.host = .assertReset :: ms →
    ∃ t, step s = .next t ∧ t.phase = .idle ∧ t.err = .none ∧ t.nres = 0 ∧
      [t.a, t.b, t.c, t.h, t.pk, t.len, t.seed1, t.seed2, t.idx, t.res0, t.res1, t.res2] =
        ([.a, .b, .c, .h, .pk, .len, .seed1, .seed2, .idx, .res0, .res1, .res2] : List ResetRegister).map
          (Config.unspecifiedWord s.resets) ∧
      t.op = Config.unspecifiedOp s.resets ∧
      t.cmdReady = true ∧ t.keyReady = false ∧ t.busy = false ∧ t.doneFlag = false ∧ t.errorFlag = false ∧
      readStatus t = 0x00000000 ∧ (∀ k, readResult k t = .error .resultHasNoValue) ∧
      t.cmdChannel = s.cmdChannel ∧ t.keyChannel = s.keyChannel ∧ t.host = ms) ∧
    ∀ (s t : State), step s = .next t →
      (t.phase = .idle → s.phase = .idle ∨ s.host.head? = some .assertReset) ∧
        (s.phase = .run → t.phase ≠ .run →
          s.host.head? = some .assertReset ∨ (s.idx = s.len ∧ t.phase = .done))

/-- A result word has a value only when phase = DONE and its index is below NRES, and then it is the result register; any
other read is refused (R33, R77). The spec gives such a read no value; that the
model refuses it is its choice (log 18). -/
def Obligations.ResultWordsAreReadableOnlyWhenValid : Prop :=
  ∀ (s : State) (k : Nat),
    (s.phase = .done ∧ k < s.nres.toNat →
      ∃ w, readResult k s = .ok w ∧ [s.res0, s.res1, s.res2][k]? = some w) ∧
    (¬ (s.phase = .done ∧ k < s.nres.toNat) → readResult k s = .error .resultHasNoValue)

/-- R62: "a command on one has no effect on any other". -/
def Obligations.InstancesShareNothing : Prop :=
  ∀ (k j : Nat) (p q : List State), platformStep k p = .next q → j ≠ k → q[j]? = p[j]?

/-! ## The data path -/

/-- R11: `rot` is the left rotation "`(x << k) | (x >> (32-k))` for 0<k<32", and "Bit i of x becomes bit (i + k) mod 32 of
the result". -/
def Obligations.RotationMovesEveryBit : Prop :=
  ∀ (x : Word) (k : Nat) (bound : 0 < k ∧ k < 32),
    rot x k bound = ((x <<< k) ||| (x >>> (32 - k))) ∧
      ∀ i, i < 32 → (rot x k bound).getLsbD ((i + k) % 32) = x.getLsbD i

/-- The law R130 allows a model to use: two rotations are one by the sum of the amounts, when that is no multiple of
32. -/
def Obligations.RotationsCompose : Prop :=
  ∀ (x : Word) (j k : Nat) (hj : 0 < j ∧ j < 32) (hk : 0 < k ∧ k < 32) (h : 0 < (j + k) % 32 ∧ (j + k) % 32 < 32),
    rot (rot x j hj) k hk = rot x ((j + k) % 32) h

/-- The 18 assignments of `mix` and the 14 of `final`, in their order. The spec marks the operand patterns as supplied
from general knowledge (GK1, GK2; logs 11, 12). -/
def Obligations.MixAndFinalPerformTheirAssignments : Prop :=
  (∀ a b c : Word,
    mix3 { a := a, b := b, c := c } =
      (let a := a - c; let a := a ^^^ rot c 4;  let c := c + b
       let b := b - a; let b := b ^^^ rot a 6;  let a := a + c
       let c := c - b; let c := c ^^^ rot b 8;  let b := b + a
       let a := a - c; let a := a ^^^ rot c 16; let c := c + b
       let b := b - a; let b := b ^^^ rot a 19; let a := a + c
       let c := c - b; let c := c ^^^ rot b 4;  let b := b + a
       { a := a, b := b, c := c })) ∧
    ∀ a b c : Word,
      final3 { a := a, b := b, c := c } =
        (let c := c ^^^ b; let c := c - rot b 14
         let a := a ^^^ c; let a := a - rot c 11
         let b := b ^^^ a; let b := b - rot a 25
         let c := c ^^^ b; let c := c - rot b 16
         let a := a ^^^ c; let a := a - rot c 4
         let b := b ^^^ a; let b := b - rot a 14
         let c := c ^^^ b; let c := c - rot b 24
         { a := a, b := b, c := c })

/-- `mix3` and `final3` are bijections on triples (spec/95_test_vectors.md section 3, marked there as derived). -/
def Obligations.MixAndFinalAreBijections : Prop := Function.Bijective mix3 ∧ Function.Bijective final3

/-- R171: little-endian packing of a full word as a number, byte by byte, with the rule's example. -/
def Obligations.LittleEndianPackingOfAWord : Prop :=
  (∀ b0 b1 b2 b3 : Byte,
    packLe b0 b1 b2 b3 =
        (b0.setWidth 32 ||| (b1.setWidth 32 <<< 8) ||| (b2.setWidth 32 <<< 16) ||| (b3.setWidth 32 <<< 24)) ∧
      (packLe b0 b1 b2 b3).toNat = b0.toNat + 256 * b1.toNat + 65536 * b2.toNat + 16777216 * b3.toNat ∧
      (packLe b0 b1 b2 b3).extractLsb' 0 8 = b0 ∧ (packLe b0 b1 b2 b3).extractLsb' 8 8 = b1 ∧
      (packLe b0 b1 b2 b3).extractLsb' 16 8 = b2 ∧ (packLe b0 b1 b2 b3).extractLsb' 24 8 = b3) ∧
    packLe 0x01 0x02 0x03 0x04 = 0x04030201

/-- R191: big-endian packing of a full word as a number, byte by byte, with the rule's example and its relation to the
little-endian packer. -/
def Obligations.BigEndianPackingOfAWord : Prop :=
  (∀ b0 b1 b2 b3 : Byte,
    packBe b0 b1 b2 b3 =
        ((b0.setWidth 32 <<< 24) ||| (b1.setWidth 32 <<< 16) ||| (b2.setWidth 32 <<< 8) ||| b3.setWidth 32) ∧
      (packBe b0 b1 b2 b3).toNat = 16777216 * b0.toNat + 65536 * b1.toNat + 256 * b2.toNat + b3.toNat ∧
      (packBe b0 b1 b2 b3).extractLsb' 24 8 = b0 ∧ (packBe b0 b1 b2 b3).extractLsb' 16 8 = b1 ∧
      (packBe b0 b1 b2 b3).extractLsb' 8 8 = b2 ∧ (packBe b0 b1 b2 b3).extractLsb' 0 8 = b3 ∧
      packBe b0 b1 b2 b3 = packLe b3 b2 b1 b0) ∧
    packBe 0x01 0x02 0x03 0x04 = 0x01020304

/-- The pack register is not observable. Adding every byte at its own position, one at a time, gives the lanes that adding
packed words gives, in both byte orders; and it gives the lanes that the KEY steps of a byte command and the flush give:
after any number of KEY steps the lanes, with what `pk` holds added to its lane when a word is incomplete, are those of the
bytes added directly, and after the last the flush of FINISH makes them so (spec/43_hashlittle.md section 1, marked there
as derived; the big-endian partial word is the spec's own reading, log 13). -/
def Obligations.BytesMayBeAddedOneAtATime : Prop :=
  (∀ (ord : ByteOrder) (l : Lanes) (e : List Byte), foldBytesDirectly ord 0 l e = foldBytes ord l e) ∧
    ∀ (ord : ByteOrder) (s : State) (e : List Word),
      (ord = .little ∧ (s.Running .hashlittle ∨ s.Running .hashlittle2)) ∨ (ord = .big ∧ s.Running .hashbig) →
      s.idx = 0 → s.pk = 0 → e.length ≤ s.len.toNat →
      ∃ (t : State) (l : Lanes), l = foldBytesDirectly ord 0 s.lanes (e.map elementByte) ∧
        keySteps e s = .next t ∧ t.idx.toNat = e.length ∧
        (e.length % 4 = 0 → t.lanes = l ∧ t.pk = 0) ∧
        (e.length % 4 ≠ 0 → t.lanes.addTo (laneOfNat (e.length % 12 / 4)) t.pk = l) ∧
        (e.length = s.len.toNat → t.flushPartialWord.lanes = l ∧ t.flushPartialWord.pk = 0)

/-- Hashing a buffer whose length is a multiple of 4, and not 0, is hashing its packed words, in both outputs and both
byte orders (spec/42_hashword.md section 3 and spec/44_hashbig.md section 3, marked there as derived). -/
def Obligations.ByteAndWordHashesAgree : Prop :=
  ∀ (ord : ByteOrder) (e : List Byte) (s1 s2 : Word), e.length % 4 = 0 → 4 ≤ e.length → e.length < 2 ^ 32 →
    hashbytes2Fn ord e s1 s2 = hashword2Fn (packAll ord e) s1 s2

/-! ## The assembler -/

/-- An assembled call is the descriptor of its command, with LEN the number of elements, the seeds as given, a seed that is
left out 0 and unused words 0, followed by the elements as beats in list order, each unchanged as a number; a string gives
its ASCII codes. Exactly the well-formed calls (spec/30_encoding.md section 6) are assembled; no lexical detail (log 22) is
used. -/
def Obligations.AssembledCallsDecode : Prop :=
  (∀ call : Call, (assemble call).isSome = call.wellFormed) ∧
    ∀ (d : Descriptor) (ks : List Word),
      (∀ a b c, assemble (.mix a b c) = some (d, ks) →
        ∃ x y z, DescriptorOf d (.mix x y z) ∧ x.toNat = a ∧ y.toNat = b ∧ z.toNat = c ∧ ks = []) ∧
      (∀ a b c, assemble (.final a b c) = some (d, ks) →
        ∃ x y z, DescriptorOf d (.final x y z) ∧ x.toNat = a ∧ y.toNat = b ∧ z.toNat = c ∧ ks = []) ∧
      (∀ ws s1, assemble (.hashword ws s1) = some (d, ks) →
        ∃ n x, DescriptorOf d (.hashword n x) ∧ n.toNat = ws.length ∧ x.toNat = s1.getD 0 ∧
          ks.map BitVec.toNat = ws) ∧
      (∀ ws s1 s2, assemble (.hashword2 ws s1 s2) = some (d, ks) →
        ∃ n x y, DescriptorOf d (.hashword2 n x y) ∧ n.toNat = ws.length ∧ x.toNat = s1.getD 0 ∧
          y.toNat = s2.getD 0 ∧ ks.map BitVec.toNat = ws) ∧
      ∀ buf bs, Spells buf bs →
        (∀ s1, assemble (.hashlittle buf s1) = some (d, ks) →
          ∃ n x, DescriptorOf d (.hashlittle n x) ∧ n.toNat = bs.length ∧ x.toNat = s1.getD 0 ∧
            ks.map BitVec.toNat = bs ∧ ∀ b ∈ bs, b < 256) ∧
        (∀ s1 s2, assemble (.hashlittle2 buf s1 s2) = some (d, ks) →
          ∃ n x y, DescriptorOf d (.hashlittle2 n x y) ∧ n.toNat = bs.length ∧ x.toNat = s1.getD 0 ∧
            y.toNat = s2.getD 0 ∧ ks.map BitVec.toNat = bs ∧ ∀ b ∈ bs, b < 256) ∧
        (∀ s1, assemble (.hashbig buf s1) = some (d, ks) →
          ∃ n x, DescriptorOf d (.hashbig n x) ∧ n.toNat = bs.length ∧ x.toNat = s1.getD 0 ∧
            ks.map BitVec.toNat = bs ∧ ∀ b ∈ bs, b < 256) ∧
        (assemble (.oneatatime buf) = some (d, ks) →
          ∃ n, DescriptorOf d (.oneatatime n) ∧ n.toNat = bs.length ∧ ks.map BitVec.toNat = bs ∧ ∀ b ∈ bs, b < 256)

/-- R83: an empty word list, with any seeds that can be written and in every pseudo-form, is assembled, with LEN = 0, and
then refused by the hardware with InvalidInput; a number outside 0 to 2^32 - 1 in a word list is refused by the
assembler. -/
def Obligations.AssemblerRefusesNumbersNotEmptyLists : Prop :=
  (∀ (s : State) (s1 s2 : Option Nat), s.phase ≠ .run →
    (∀ n, s1 = some n → n < 2 ^ 32) → (∀ n, s2 = some n → n < 2 ^ 32) → (s1 = none → s2 = none) →
    ∀ call : Call, call = .hashword [] s1 ∨ call = .hashword2 [] s1 s2 →
      ∃ d t, assemble call = some (d, []) ∧ d.d1 = 0 ∧ d.d2.toNat = s1.getD 0 ∧
        cmdStep d s = .next t ∧ t.phase = .err ∧ t.err = .invalidInput) ∧
    ∀ (ws : List Nat) (s1 s2 : Option Nat) (w : Nat), w ∈ ws → 2 ^ 32 ≤ w →
      assemble (.hashword ws s1) = none ∧ assemble (.hashword2 ws s1 s2) = none

/-! ## The data path of ONEATATIME (spec/45_oneatatime.md) -/

/-- R201 and R202: the three assignments of `oaat_step` and of `oaat_fin`, in their order, for every accumulator and byte:
each line uses the `h` left by the line before, a byte enters as an unsigned number, sums wrap and lose the bits shifted
past bit 31, and the right shift is logical. With the rule's value at 0. -/
def Obligations.OneatatimePerformsItsAssignments : Prop :=
  (∀ (h : Word) (x : Byte), ∃ h1 h2 : Word, h1 = h + x.setWidth 32 ∧ h2 = h1 + (h1 <<< 10) ∧
      oaatStep h x = h2 ^^^ (h2 >>> 6) ∧ h1.toNat = (h.toNat + x.toNat) % 2 ^ 32 ∧
      h2.toNat = (h1.toNat + h1.toNat * 2 ^ 10) % 2 ^ 32 ∧ (h2 >>> 6).toNat = h2.toNat / 2 ^ 6) ∧
    (∀ h : Word, ∃ h1 h2 : Word, h1 = h + (h <<< 3) ∧ h2 = h1 ^^^ (h1 >>> 11) ∧ oaatFin h = h2 + (h2 <<< 15) ∧
      h1.toNat = (h.toNat + h.toNat * 2 ^ 3) % 2 ^ 32 ∧ (h1 >>> 11).toNat = h1.toNat / 2 ^ 11 ∧
      (oaatFin h).toNat = (h2.toNat + h2.toNat * 2 ^ 15) % 2 ^ 32) ∧
    oaatFin 0 = 0
end

