-- ==== Sys2Proof/Laws/Decode.lean ====
section
/-! SUPPORT. The words of a descriptor made of four words, and what the decoder answers. -/

namespace Sys2Proof

theorem Descriptor.d0_ofWords (w0 w1 w2 w3 : Word) : (Descriptor.ofWords w0 w1 w2 w3).d0 = w0 := by
  unfold Descriptor.ofWords Descriptor.d0
  ext i hi
  simp [BitVec.getElem_extractLsb', hi]
  grind

theorem Descriptor.d1_ofWords (w0 w1 w2 w3 : Word) : (Descriptor.ofWords w0 w1 w2 w3).d1 = w1 := by
  unfold Descriptor.ofWords Descriptor.d1
  ext i hi
  simp [BitVec.getElem_extractLsb', hi]
  grind

theorem Descriptor.d2_ofWords (w0 w1 w2 w3 : Word) : (Descriptor.ofWords w0 w1 w2 w3).d2 = w2 := by
  unfold Descriptor.ofWords Descriptor.d2
  ext i hi
  simp [BitVec.getElem_extractLsb', hi]
  grind

theorem Descriptor.d3_ofWords (w0 w1 w2 w3 : Word) : (Descriptor.ofWords w0 w1 w2 w3).d3 = w3 := by
  unfold Descriptor.ofWords Descriptor.d3
  ext i hi
  simp [BitVec.getElem_extractLsb', hi]
  grind

theorem Opcode.opc_d0 (o : Opcode) : o.d0.extractLsb' 0 8 = o.bits := by cases o <;> decide

theorem Opcode.rsv_d0 (o : Opcode) : o.d0.extractLsb' 8 24 = 0 := by cases o <;> decide

/-- What the decoder answers, by the two checks of R79. -/
theorem decode_eq (d : Descriptor) :
    decode d =
      if d.rsv ≠ 0 then .error .reservedBits
      else
        match Opcode.ofBits? d.opc with
        | none => .error .unassignedOpcode
        | some o => .ok (o.withOperands d.d1 d.d2 d.d3) :=
  rfl

/-- A descriptor that decodes has RSV 0 and an opcode. -/
theorem decode_ok_iff (d : Descriptor) (i : Instr) :
    decode d = .ok i ↔ d.rsv = 0 ∧ ∃ o, Opcode.ofBits? d.opc = some o ∧ i = o.withOperands d.d1 d.d2 d.d3 := by
  unfold decode
  by_cases h : d.rsv = 0
  · cases ho : Opcode.ofBits? d.opc with
    | none => simp [h]
    | some o => simp [h, eq_comm]
  · simp [show ¬ d.rsv = 0#24 from h]

theorem Opcode.opcode_withOperands (o : Opcode) (x y z : Word) : (o.withOperands x y z).opcode = o := by
  cases o <;> rfl

end Sys2Proof
end

