-- ==== Sys2Proof/Laws/State.lean ====
section
/-! SUPPORT. What every update of the state does to every field: one lemma per field per update, true by definition, so
that no later proof unfolds a record update. -/

namespace Sys2Proof.Machine

@[simp] theorem State.lanes_a (s : State) : s.lanes.a = s.a := rfl
@[simp] theorem State.lanes_b (s : State) : s.lanes.b = s.b := rfl
@[simp] theorem State.lanes_c (s : State) : s.lanes.c = s.c := rfl
@[simp] theorem State.lanes_setLanes (s : State) (l : Lanes) : (s.setLanes l).lanes = l := rfl

/-! ### setLanes -/

@[simp] theorem State.setLanes_a (s : State) (l : Lanes) :
    (s.setLanes l).a = l.a := rfl
@[simp] theorem State.setLanes_b (s : State) (l : Lanes) :
    (s.setLanes l).b = l.b := rfl
@[simp] theorem State.setLanes_c (s : State) (l : Lanes) :
    (s.setLanes l).c = l.c := rfl
@[simp] theorem State.setLanes_h (s : State) (l : Lanes) :
    (s.setLanes l).h = s.h := rfl
@[simp] theorem State.setLanes_pk (s : State) (l : Lanes) :
    (s.setLanes l).pk = s.pk := rfl
@[simp] theorem State.setLanes_op (s : State) (l : Lanes) :
    (s.setLanes l).op = s.op := rfl
@[simp] theorem State.setLanes_len (s : State) (l : Lanes) :
    (s.setLanes l).len = s.len := rfl
@[simp] theorem State.setLanes_seed1 (s : State) (l : Lanes) :
    (s.setLanes l).seed1 = s.seed1 := rfl
@[simp] theorem State.setLanes_seed2 (s : State) (l : Lanes) :
    (s.setLanes l).seed2 = s.seed2 := rfl
@[simp] theorem State.setLanes_idx (s : State) (l : Lanes) :
    (s.setLanes l).idx = s.idx := rfl
@[simp] theorem State.setLanes_phase (s : State) (l : Lanes) :
    (s.setLanes l).phase = s.phase := rfl
@[simp] theorem State.setLanes_err (s : State) (l : Lanes) :
    (s.setLanes l).err = s.err := rfl
@[simp] theorem State.setLanes_nres (s : State) (l : Lanes) :
    (s.setLanes l).nres = s.nres := rfl
@[simp] theorem State.setLanes_res0 (s : State) (l : Lanes) :
    (s.setLanes l).res0 = s.res0 := rfl
@[simp] theorem State.setLanes_res1 (s : State) (l : Lanes) :
    (s.setLanes l).res1 = s.res1 := rfl
@[simp] theorem State.setLanes_res2 (s : State) (l : Lanes) :
    (s.setLanes l).res2 = s.res2 := rfl
@[simp] theorem State.setLanes_cmdChannel (s : State) (l : Lanes) :
    (s.setLanes l).cmdChannel = s.cmdChannel := rfl
@[simp] theorem State.setLanes_keyChannel (s : State) (l : Lanes) :
    (s.setLanes l).keyChannel = s.keyChannel := rfl
@[simp] theorem State.setLanes_host (s : State) (l : Lanes) :
    (s.setLanes l).host = s.host := rfl
@[simp] theorem State.setLanes_resets (s : State) (l : Lanes) :
    (s.setLanes l).resets = s.resets := rfl

/-! ### advanceIdx -/

@[simp] theorem State.advanceIdx_a (s : State) :
    (s.advanceIdx).a = s.a := rfl
@[simp] theorem State.advanceIdx_b (s : State) :
    (s.advanceIdx).b = s.b := rfl
@[simp] theorem State.advanceIdx_c (s : State) :
    (s.advanceIdx).c = s.c := rfl
@[simp] theorem State.advanceIdx_h (s : State) :
    (s.advanceIdx).h = s.h := rfl
@[simp] theorem State.advanceIdx_pk (s : State) :
    (s.advanceIdx).pk = s.pk := rfl
@[simp] theorem State.advanceIdx_op (s : State) :
    (s.advanceIdx).op = s.op := rfl
@[simp] theorem State.advanceIdx_len (s : State) :
    (s.advanceIdx).len = s.len := rfl
@[simp] theorem State.advanceIdx_seed1 (s : State) :
    (s.advanceIdx).seed1 = s.seed1 := rfl
@[simp] theorem State.advanceIdx_seed2 (s : State) :
    (s.advanceIdx).seed2 = s.seed2 := rfl
@[simp] theorem State.advanceIdx_idx (s : State) :
    (s.advanceIdx).idx = s.idx + 1 := rfl
@[simp] theorem State.advanceIdx_phase (s : State) :
    (s.advanceIdx).phase = s.phase := rfl
@[simp] theorem State.advanceIdx_err (s : State) :
    (s.advanceIdx).err = s.err := rfl
@[simp] theorem State.advanceIdx_nres (s : State) :
    (s.advanceIdx).nres = s.nres := rfl
@[simp] theorem State.advanceIdx_res0 (s : State) :
    (s.advanceIdx).res0 = s.res0 := rfl
@[simp] theorem State.advanceIdx_res1 (s : State) :
    (s.advanceIdx).res1 = s.res1 := rfl
@[simp] theorem State.advanceIdx_res2 (s : State) :
    (s.advanceIdx).res2 = s.res2 := rfl
@[simp] theorem State.advanceIdx_cmdChannel (s : State) :
    (s.advanceIdx).cmdChannel = s.cmdChannel := rfl
@[simp] theorem State.advanceIdx_keyChannel (s : State) :
    (s.advanceIdx).keyChannel = s.keyChannel := rfl
@[simp] theorem State.advanceIdx_host (s : State) :
    (s.advanceIdx).host = s.host := rfl
@[simp] theorem State.advanceIdx_resets (s : State) :
    (s.advanceIdx).resets = s.resets := rfl

/-! ### clearResults -/

@[simp] theorem State.clearResults_a (s : State) :
    (s.clearResults).a = s.a := rfl
@[simp] theorem State.clearResults_b (s : State) :
    (s.clearResults).b = s.b := rfl
@[simp] theorem State.clearResults_c (s : State) :
    (s.clearResults).c = s.c := rfl
@[simp] theorem State.clearResults_h (s : State) :
    (s.clearResults).h = s.h := rfl
@[simp] theorem State.clearResults_pk (s : State) :
    (s.clearResults).pk = s.pk := rfl
@[simp] theorem State.clearResults_op (s : State) :
    (s.clearResults).op = s.op := rfl
@[simp] theorem State.clearResults_len (s : State) :
    (s.clearResults).len = s.len := rfl
@[simp] theorem State.clearResults_seed1 (s : State) :
    (s.clearResults).seed1 = s.seed1 := rfl
@[simp] theorem State.clearResults_seed2 (s : State) :
    (s.clearResults).seed2 = s.seed2 := rfl
@[simp] theorem State.clearResults_idx (s : State) :
    (s.clearResults).idx = s.idx := rfl
@[simp] theorem State.clearResults_phase (s : State) :
    (s.clearResults).phase = s.phase := rfl
@[simp] theorem State.clearResults_err (s : State) :
    (s.clearResults).err = s.err := rfl
@[simp] theorem State.clearResults_nres (s : State) :
    (s.clearResults).nres = 0 := rfl
@[simp] theorem State.clearResults_res0 (s : State) :
    (s.clearResults).res0 = s.res0 := rfl
@[simp] theorem State.clearResults_res1 (s : State) :
    (s.clearResults).res1 = s.res1 := rfl
@[simp] theorem State.clearResults_res2 (s : State) :
    (s.clearResults).res2 = s.res2 := rfl
@[simp] theorem State.clearResults_cmdChannel (s : State) :
    (s.clearResults).cmdChannel = s.cmdChannel := rfl
@[simp] theorem State.clearResults_keyChannel (s : State) :
    (s.clearResults).keyChannel = s.keyChannel := rfl
@[simp] theorem State.clearResults_host (s : State) :
    (s.clearResults).host = s.host := rfl
@[simp] theorem State.clearResults_resets (s : State) :
    (s.clearResults).resets = s.resets := rfl

/-! ### raise -/

@[simp] theorem State.raise_a (s : State) (e : ErrorCode) :
    (s.raise e).a = s.a := rfl
@[simp] theorem State.raise_b (s : State) (e : ErrorCode) :
    (s.raise e).b = s.b := rfl
@[simp] theorem State.raise_c (s : State) (e : ErrorCode) :
    (s.raise e).c = s.c := rfl
@[simp] theorem State.raise_h (s : State) (e : ErrorCode) :
    (s.raise e).h = s.h := rfl
@[simp] theorem State.raise_pk (s : State) (e : ErrorCode) :
    (s.raise e).pk = s.pk := rfl
@[simp] theorem State.raise_op (s : State) (e : ErrorCode) :
    (s.raise e).op = s.op := rfl
@[simp] theorem State.raise_len (s : State) (e : ErrorCode) :
    (s.raise e).len = s.len := rfl
@[simp] theorem State.raise_seed1 (s : State) (e : ErrorCode) :
    (s.raise e).seed1 = s.seed1 := rfl
@[simp] theorem State.raise_seed2 (s : State) (e : ErrorCode) :
    (s.raise e).seed2 = s.seed2 := rfl
@[simp] theorem State.raise_idx (s : State) (e : ErrorCode) :
    (s.raise e).idx = s.idx := rfl
@[simp] theorem State.raise_phase (s : State) (e : ErrorCode) :
    (s.raise e).phase = .err := rfl
@[simp] theorem State.raise_err (s : State) (e : ErrorCode) :
    (s.raise e).err = e := rfl
@[simp] theorem State.raise_nres (s : State) (e : ErrorCode) :
    (s.raise e).nres = 0 := rfl
@[simp] theorem State.raise_res0 (s : State) (e : ErrorCode) :
    (s.raise e).res0 = s.res0 := rfl
@[simp] theorem State.raise_res1 (s : State) (e : ErrorCode) :
    (s.raise e).res1 = s.res1 := rfl
@[simp] theorem State.raise_res2 (s : State) (e : ErrorCode) :
    (s.raise e).res2 = s.res2 := rfl
@[simp] theorem State.raise_cmdChannel (s : State) (e : ErrorCode) :
    (s.raise e).cmdChannel = s.cmdChannel := rfl
@[simp] theorem State.raise_keyChannel (s : State) (e : ErrorCode) :
    (s.raise e).keyChannel = s.keyChannel := rfl
@[simp] theorem State.raise_host (s : State) (e : ErrorCode) :
    (s.raise e).host = s.host := rfl
@[simp] theorem State.raise_resets (s : State) (e : ErrorCode) :
    (s.raise e).resets = s.resets := rfl

/-! ### startRun -/

@[simp] theorem State.startRun_a (s : State) :
    (s.startRun).a = s.a := rfl
@[simp] theorem State.startRun_b (s : State) :
    (s.startRun).b = s.b := rfl
@[simp] theorem State.startRun_c (s : State) :
    (s.startRun).c = s.c := rfl
@[simp] theorem State.startRun_h (s : State) :
    (s.startRun).h = s.h := rfl
@[simp] theorem State.startRun_pk (s : State) :
    (s.startRun).pk = s.pk := rfl
@[simp] theorem State.startRun_op (s : State) :
    (s.startRun).op = s.op := rfl
@[simp] theorem State.startRun_len (s : State) :
    (s.startRun).len = s.len := rfl
@[simp] theorem State.startRun_seed1 (s : State) :
    (s.startRun).seed1 = s.seed1 := rfl
@[simp] theorem State.startRun_seed2 (s : State) :
    (s.startRun).seed2 = s.seed2 := rfl
@[simp] theorem State.startRun_idx (s : State) :
    (s.startRun).idx = 0 := rfl
@[simp] theorem State.startRun_phase (s : State) :
    (s.startRun).phase = .run := rfl
@[simp] theorem State.startRun_err (s : State) :
    (s.startRun).err = .none := rfl
@[simp] theorem State.startRun_nres (s : State) :
    (s.startRun).nres = s.nres := rfl
@[simp] theorem State.startRun_res0 (s : State) :
    (s.startRun).res0 = s.res0 := rfl
@[simp] theorem State.startRun_res1 (s : State) :
    (s.startRun).res1 = s.res1 := rfl
@[simp] theorem State.startRun_res2 (s : State) :
    (s.startRun).res2 = s.res2 := rfl
@[simp] theorem State.startRun_cmdChannel (s : State) :
    (s.startRun).cmdChannel = s.cmdChannel := rfl
@[simp] theorem State.startRun_keyChannel (s : State) :
    (s.startRun).keyChannel = s.keyChannel := rfl
@[simp] theorem State.startRun_host (s : State) :
    (s.startRun).host = s.host := rfl
@[simp] theorem State.startRun_resets (s : State) :
    (s.startRun).resets = s.resets := rfl

/-! ### latchTriple -/

@[simp] theorem State.latchTriple_a (s : State) (o : Opcode) (x y z : Word) :
    (s.latchTriple o x y z).a = x := rfl
@[simp] theorem State.latchTriple_b (s : State) (o : Opcode) (x y z : Word) :
    (s.latchTriple o x y z).b = y := rfl
@[simp] theorem State.latchTriple_c (s : State) (o : Opcode) (x y z : Word) :
    (s.latchTriple o x y z).c = z := rfl
@[simp] theorem State.latchTriple_h (s : State) (o : Opcode) (x y z : Word) :
    (s.latchTriple o x y z).h = s.h := rfl
@[simp] theorem State.latchTriple_pk (s : State) (o : Opcode) (x y z : Word) :
    (s.latchTriple o x y z).pk = s.pk := rfl
@[simp] theorem State.latchTriple_op (s : State) (o : Opcode) (x y z : Word) :
    (s.latchTriple o x y z).op = o.bits := rfl
@[simp] theorem State.latchTriple_len (s : State) (o : Opcode) (x y z : Word) :
    (s.latchTriple o x y z).len = 0 := rfl
@[simp] theorem State.latchTriple_seed1 (s : State) (o : Opcode) (x y z : Word) :
    (s.latchTriple o x y z).seed1 = s.seed1 := rfl
@[simp] theorem State.latchTriple_seed2 (s : State) (o : Opcode) (x y z : Word) :
    (s.latchTriple o x y z).seed2 = s.seed2 := rfl
@[simp] theorem State.latchTriple_idx (s : State) (o : Opcode) (x y z : Word) :
    (s.latchTriple o x y z).idx = s.idx := rfl
@[simp] theorem State.latchTriple_phase (s : State) (o : Opcode) (x y z : Word) :
    (s.latchTriple o x y z).phase = s.phase := rfl
@[simp] theorem State.latchTriple_err (s : State) (o : Opcode) (x y z : Word) :
    (s.latchTriple o x y z).err = s.err := rfl
@[simp] theorem State.latchTriple_nres (s : State) (o : Opcode) (x y z : Word) :
    (s.latchTriple o x y z).nres = s.nres := rfl
@[simp] theorem State.latchTriple_res0 (s : State) (o : Opcode) (x y z : Word) :
    (s.latchTriple o x y z).res0 = s.res0 := rfl
@[simp] theorem State.latchTriple_res1 (s : State) (o : Opcode) (x y z : Word) :
    (s.latchTriple o x y z).res1 = s.res1 := rfl
@[simp] theorem State.latchTriple_res2 (s : State) (o : Opcode) (x y z : Word) :
    (s.latchTriple o x y z).res2 = s.res2 := rfl
@[simp] theorem State.latchTriple_cmdChannel (s : State) (o : Opcode) (x y z : Word) :
    (s.latchTriple o x y z).cmdChannel = s.cmdChannel := rfl
@[simp] theorem State.latchTriple_keyChannel (s : State) (o : Opcode) (x y z : Word) :
    (s.latchTriple o x y z).keyChannel = s.keyChannel := rfl
@[simp] theorem State.latchTriple_host (s : State) (o : Opcode) (x y z : Word) :
    (s.latchTriple o x y z).host = s.host := rfl
@[simp] theorem State.latchTriple_resets (s : State) (o : Opcode) (x y z : Word) :
    (s.latchTriple o x y z).resets = s.resets := rfl

/-! ### latchSeeded -/

@[simp] theorem State.latchSeeded_a (s : State) (o : Opcode) (n x y : Word) :
    (s.latchSeeded o n x y).a = s.a := rfl
@[simp] theorem State.latchSeeded_b (s : State) (o : Opcode) (n x y : Word) :
    (s.latchSeeded o n x y).b = s.b := rfl
@[simp] theorem State.latchSeeded_c (s : State) (o : Opcode) (n x y : Word) :
    (s.latchSeeded o n x y).c = s.c := rfl
@[simp] theorem State.latchSeeded_h (s : State) (o : Opcode) (n x y : Word) :
    (s.latchSeeded o n x y).h = s.h := rfl
@[simp] theorem State.latchSeeded_pk (s : State) (o : Opcode) (n x y : Word) :
    (s.latchSeeded o n x y).pk = s.pk := rfl
@[simp] theorem State.latchSeeded_op (s : State) (o : Opcode) (n x y : Word) :
    (s.latchSeeded o n x y).op = o.bits := rfl
@[simp] theorem State.latchSeeded_len (s : State) (o : Opcode) (n x y : Word) :
    (s.latchSeeded o n x y).len = n := rfl
@[simp] theorem State.latchSeeded_seed1 (s : State) (o : Opcode) (n x y : Word) :
    (s.latchSeeded o n x y).seed1 = x := rfl
@[simp] theorem State.latchSeeded_seed2 (s : State) (o : Opcode) (n x y : Word) :
    (s.latchSeeded o n x y).seed2 = y := rfl
@[simp] theorem State.latchSeeded_idx (s : State) (o : Opcode) (n x y : Word) :
    (s.latchSeeded o n x y).idx = s.idx := rfl
@[simp] theorem State.latchSeeded_phase (s : State) (o : Opcode) (n x y : Word) :
    (s.latchSeeded o n x y).phase = s.phase := rfl
@[simp] theorem State.latchSeeded_err (s : State) (o : Opcode) (n x y : Word) :
    (s.latchSeeded o n x y).err = s.err := rfl
@[simp] theorem State.latchSeeded_nres (s : State) (o : Opcode) (n x y : Word) :
    (s.latchSeeded o n x y).nres = s.nres := rfl
@[simp] theorem State.latchSeeded_res0 (s : State) (o : Opcode) (n x y : Word) :
    (s.latchSeeded o n x y).res0 = s.res0 := rfl
@[simp] theorem State.latchSeeded_res1 (s : State) (o : Opcode) (n x y : Word) :
    (s.latchSeeded o n x y).res1 = s.res1 := rfl
@[simp] theorem State.latchSeeded_res2 (s : State) (o : Opcode) (n x y : Word) :
    (s.latchSeeded o n x y).res2 = s.res2 := rfl
@[simp] theorem State.latchSeeded_cmdChannel (s : State) (o : Opcode) (n x y : Word) :
    (s.latchSeeded o n x y).cmdChannel = s.cmdChannel := rfl
@[simp] theorem State.latchSeeded_keyChannel (s : State) (o : Opcode) (n x y : Word) :
    (s.latchSeeded o n x y).keyChannel = s.keyChannel := rfl
@[simp] theorem State.latchSeeded_host (s : State) (o : Opcode) (n x y : Word) :
    (s.latchSeeded o n x y).host = s.host := rfl
@[simp] theorem State.latchSeeded_resets (s : State) (o : Opcode) (n x y : Word) :
    (s.latchSeeded o n x y).resets = s.resets := rfl

/-! ### latchLength -/

@[simp] theorem State.latchLength_a (s : State) (o : Opcode) (n : Word) :
    (s.latchLength o n).a = s.a := rfl
@[simp] theorem State.latchLength_b (s : State) (o : Opcode) (n : Word) :
    (s.latchLength o n).b = s.b := rfl
@[simp] theorem State.latchLength_c (s : State) (o : Opcode) (n : Word) :
    (s.latchLength o n).c = s.c := rfl
@[simp] theorem State.latchLength_h (s : State) (o : Opcode) (n : Word) :
    (s.latchLength o n).h = s.h := rfl
@[simp] theorem State.latchLength_pk (s : State) (o : Opcode) (n : Word) :
    (s.latchLength o n).pk = s.pk := rfl
@[simp] theorem State.latchLength_op (s : State) (o : Opcode) (n : Word) :
    (s.latchLength o n).op = o.bits := rfl
@[simp] theorem State.latchLength_len (s : State) (o : Opcode) (n : Word) :
    (s.latchLength o n).len = n := rfl
@[simp] theorem State.latchLength_seed1 (s : State) (o : Opcode) (n : Word) :
    (s.latchLength o n).seed1 = s.seed1 := rfl
@[simp] theorem State.latchLength_seed2 (s : State) (o : Opcode) (n : Word) :
    (s.latchLength o n).seed2 = s.seed2 := rfl
@[simp] theorem State.latchLength_idx (s : State) (o : Opcode) (n : Word) :
    (s.latchLength o n).idx = s.idx := rfl
@[simp] theorem State.latchLength_phase (s : State) (o : Opcode) (n : Word) :
    (s.latchLength o n).phase = s.phase := rfl
@[simp] theorem State.latchLength_err (s : State) (o : Opcode) (n : Word) :
    (s.latchLength o n).err = s.err := rfl
@[simp] theorem State.latchLength_nres (s : State) (o : Opcode) (n : Word) :
    (s.latchLength o n).nres = s.nres := rfl
@[simp] theorem State.latchLength_res0 (s : State) (o : Opcode) (n : Word) :
    (s.latchLength o n).res0 = s.res0 := rfl
@[simp] theorem State.latchLength_res1 (s : State) (o : Opcode) (n : Word) :
    (s.latchLength o n).res1 = s.res1 := rfl
@[simp] theorem State.latchLength_res2 (s : State) (o : Opcode) (n : Word) :
    (s.latchLength o n).res2 = s.res2 := rfl
@[simp] theorem State.latchLength_cmdChannel (s : State) (o : Opcode) (n : Word) :
    (s.latchLength o n).cmdChannel = s.cmdChannel := rfl
@[simp] theorem State.latchLength_keyChannel (s : State) (o : Opcode) (n : Word) :
    (s.latchLength o n).keyChannel = s.keyChannel := rfl
@[simp] theorem State.latchLength_host (s : State) (o : Opcode) (n : Word) :
    (s.latchLength o n).host = s.host := rfl
@[simp] theorem State.latchLength_resets (s : State) (o : Opcode) (n : Word) :
    (s.latchLength o n).resets = s.resets := rfl

/-! ### initAccumulator -/

@[simp] theorem State.initAccumulator_a (s : State) :
    (s.initAccumulator).a = s.a := rfl
@[simp] theorem State.initAccumulator_b (s : State) :
    (s.initAccumulator).b = s.b := rfl
@[simp] theorem State.initAccumulator_c (s : State) :
    (s.initAccumulator).c = s.c := rfl
@[simp] theorem State.initAccumulator_h (s : State) :
    (s.initAccumulator).h = 0 := rfl
@[simp] theorem State.initAccumulator_pk (s : State) :
    (s.initAccumulator).pk = s.pk := rfl
@[simp] theorem State.initAccumulator_op (s : State) :
    (s.initAccumulator).op = s.op := rfl
@[simp] theorem State.initAccumulator_len (s : State) :
    (s.initAccumulator).len = s.len := rfl
@[simp] theorem State.initAccumulator_seed1 (s : State) :
    (s.initAccumulator).seed1 = s.seed1 := rfl
@[simp] theorem State.initAccumulator_seed2 (s : State) :
    (s.initAccumulator).seed2 = s.seed2 := rfl
@[simp] theorem State.initAccumulator_idx (s : State) :
    (s.initAccumulator).idx = s.idx := rfl
@[simp] theorem State.initAccumulator_phase (s : State) :
    (s.initAccumulator).phase = s.phase := rfl
@[simp] theorem State.initAccumulator_err (s : State) :
    (s.initAccumulator).err = s.err := rfl
@[simp] theorem State.initAccumulator_nres (s : State) :
    (s.initAccumulator).nres = s.nres := rfl
@[simp] theorem State.initAccumulator_res0 (s : State) :
    (s.initAccumulator).res0 = s.res0 := rfl
@[simp] theorem State.initAccumulator_res1 (s : State) :
    (s.initAccumulator).res1 = s.res1 := rfl
@[simp] theorem State.initAccumulator_res2 (s : State) :
    (s.initAccumulator).res2 = s.res2 := rfl
@[simp] theorem State.initAccumulator_cmdChannel (s : State) :
    (s.initAccumulator).cmdChannel = s.cmdChannel := rfl
@[simp] theorem State.initAccumulator_keyChannel (s : State) :
    (s.initAccumulator).keyChannel = s.keyChannel := rfl
@[simp] theorem State.initAccumulator_host (s : State) :
    (s.initAccumulator).host = s.host := rfl
@[simp] theorem State.initAccumulator_resets (s : State) :
    (s.initAccumulator).resets = s.resets := rfl

/-! ### orIntoPk -/

@[simp] theorem State.orIntoPk_a (s : State) (ord : ByteOrder) (x : Byte) :
    (s.orIntoPk ord x).a = s.a := rfl
@[simp] theorem State.orIntoPk_b (s : State) (ord : ByteOrder) (x : Byte) :
    (s.orIntoPk ord x).b = s.b := rfl
@[simp] theorem State.orIntoPk_c (s : State) (ord : ByteOrder) (x : Byte) :
    (s.orIntoPk ord x).c = s.c := rfl
@[simp] theorem State.orIntoPk_h (s : State) (ord : ByteOrder) (x : Byte) :
    (s.orIntoPk ord x).h = s.h := rfl
@[simp] theorem State.orIntoPk_pk (s : State) (ord : ByteOrder) (x : Byte) :
    (s.orIntoPk ord x).pk = s.pk ||| placeByte ord (bytePosition s.idx) x := rfl
@[simp] theorem State.orIntoPk_op (s : State) (ord : ByteOrder) (x : Byte) :
    (s.orIntoPk ord x).op = s.op := rfl
@[simp] theorem State.orIntoPk_len (s : State) (ord : ByteOrder) (x : Byte) :
    (s.orIntoPk ord x).len = s.len := rfl
@[simp] theorem State.orIntoPk_seed1 (s : State) (ord : ByteOrder) (x : Byte) :
    (s.orIntoPk ord x).seed1 = s.seed1 := rfl
@[simp] theorem State.orIntoPk_seed2 (s : State) (ord : ByteOrder) (x : Byte) :
    (s.orIntoPk ord x).seed2 = s.seed2 := rfl
@[simp] theorem State.orIntoPk_idx (s : State) (ord : ByteOrder) (x : Byte) :
    (s.orIntoPk ord x).idx = s.idx := rfl
@[simp] theorem State.orIntoPk_phase (s : State) (ord : ByteOrder) (x : Byte) :
    (s.orIntoPk ord x).phase = s.phase := rfl
@[simp] theorem State.orIntoPk_err (s : State) (ord : ByteOrder) (x : Byte) :
    (s.orIntoPk ord x).err = s.err := rfl
@[simp] theorem State.orIntoPk_nres (s : State) (ord : ByteOrder) (x : Byte) :
    (s.orIntoPk ord x).nres = s.nres := rfl
@[simp] theorem State.orIntoPk_res0 (s : State) (ord : ByteOrder) (x : Byte) :
    (s.orIntoPk ord x).res0 = s.res0 := rfl
@[simp] theorem State.orIntoPk_res1 (s : State) (ord : ByteOrder) (x : Byte) :
    (s.orIntoPk ord x).res1 = s.res1 := rfl
@[simp] theorem State.orIntoPk_res2 (s : State) (ord : ByteOrder) (x : Byte) :
    (s.orIntoPk ord x).res2 = s.res2 := rfl
@[simp] theorem State.orIntoPk_cmdChannel (s : State) (ord : ByteOrder) (x : Byte) :
    (s.orIntoPk ord x).cmdChannel = s.cmdChannel := rfl
@[simp] theorem State.orIntoPk_keyChannel (s : State) (ord : ByteOrder) (x : Byte) :
    (s.orIntoPk ord x).keyChannel = s.keyChannel := rfl
@[simp] theorem State.orIntoPk_host (s : State) (ord : ByteOrder) (x : Byte) :
    (s.orIntoPk ord x).host = s.host := rfl
@[simp] theorem State.orIntoPk_resets (s : State) (ord : ByteOrder) (x : Byte) :
    (s.orIntoPk ord x).resets = s.resets := rfl

/-! ### report1 -/

@[simp] theorem State.report1_a (s : State) (r0 : Word) :
    (s.report1 r0).a = s.a := rfl
@[simp] theorem State.report1_b (s : State) (r0 : Word) :
    (s.report1 r0).b = s.b := rfl
@[simp] theorem State.report1_c (s : State) (r0 : Word) :
    (s.report1 r0).c = s.c := rfl
@[simp] theorem State.report1_h (s : State) (r0 : Word) :
    (s.report1 r0).h = s.h := rfl
@[simp] theorem State.report1_pk (s : State) (r0 : Word) :
    (s.report1 r0).pk = s.pk := rfl
@[simp] theorem State.report1_op (s : State) (r0 : Word) :
    (s.report1 r0).op = s.op := rfl
@[simp] theorem State.report1_len (s : State) (r0 : Word) :
    (s.report1 r0).len = s.len := rfl
@[simp] theorem State.report1_seed1 (s : State) (r0 : Word) :
    (s.report1 r0).seed1 = s.seed1 := rfl
@[simp] theorem State.report1_seed2 (s : State) (r0 : Word) :
    (s.report1 r0).seed2 = s.seed2 := rfl
@[simp] theorem State.report1_idx (s : State) (r0 : Word) :
    (s.report1 r0).idx = s.idx := rfl
@[simp] theorem State.report1_phase (s : State) (r0 : Word) :
    (s.report1 r0).phase = .done := rfl
@[simp] theorem State.report1_err (s : State) (r0 : Word) :
    (s.report1 r0).err = s.err := rfl
@[simp] theorem State.report1_nres (s : State) (r0 : Word) :
    (s.report1 r0).nres = 1 := rfl
@[simp] theorem State.report1_res0 (s : State) (r0 : Word) :
    (s.report1 r0).res0 = r0 := rfl
@[simp] theorem State.report1_res1 (s : State) (r0 : Word) :
    (s.report1 r0).res1 = s.res1 := rfl
@[simp] theorem State.report1_res2 (s : State) (r0 : Word) :
    (s.report1 r0).res2 = s.res2 := rfl
@[simp] theorem State.report1_cmdChannel (s : State) (r0 : Word) :
    (s.report1 r0).cmdChannel = s.cmdChannel := rfl
@[simp] theorem State.report1_keyChannel (s : State) (r0 : Word) :
    (s.report1 r0).keyChannel = s.keyChannel := rfl
@[simp] theorem State.report1_host (s : State) (r0 : Word) :
    (s.report1 r0).host = s.host := rfl
@[simp] theorem State.report1_resets (s : State) (r0 : Word) :
    (s.report1 r0).resets = s.resets := rfl

/-! ### report2 -/

@[simp] theorem State.report2_a (s : State) (r0 r1 : Word) :
    (s.report2 r0 r1).a = s.a := rfl
@[simp] theorem State.report2_b (s : State) (r0 r1 : Word) :
    (s.report2 r0 r1).b = s.b := rfl
@[simp] theorem State.report2_c (s : State) (r0 r1 : Word) :
    (s.report2 r0 r1).c = s.c := rfl
@[simp] theorem State.report2_h (s : State) (r0 r1 : Word) :
    (s.report2 r0 r1).h = s.h := rfl
@[simp] theorem State.report2_pk (s : State) (r0 r1 : Word) :
    (s.report2 r0 r1).pk = s.pk := rfl
@[simp] theorem State.report2_op (s : State) (r0 r1 : Word) :
    (s.report2 r0 r1).op = s.op := rfl
@[simp] theorem State.report2_len (s : State) (r0 r1 : Word) :
    (s.report2 r0 r1).len = s.len := rfl
@[simp] theorem State.report2_seed1 (s : State) (r0 r1 : Word) :
    (s.report2 r0 r1).seed1 = s.seed1 := rfl
@[simp] theorem State.report2_seed2 (s : State) (r0 r1 : Word) :
    (s.report2 r0 r1).seed2 = s.seed2 := rfl
@[simp] theorem State.report2_idx (s : State) (r0 r1 : Word) :
    (s.report2 r0 r1).idx = s.idx := rfl
@[simp] theorem State.report2_phase (s : State) (r0 r1 : Word) :
    (s.report2 r0 r1).phase = .done := rfl
@[simp] theorem State.report2_err (s : State) (r0 r1 : Word) :
    (s.report2 r0 r1).err = s.err := rfl
@[simp] theorem State.report2_nres (s : State) (r0 r1 : Word) :
    (s.report2 r0 r1).nres = 2 := rfl
@[simp] theorem State.report2_res0 (s : State) (r0 r1 : Word) :
    (s.report2 r0 r1).res0 = r0 := rfl
@[simp] theorem State.report2_res1 (s : State) (r0 r1 : Word) :
    (s.report2 r0 r1).res1 = r1 := rfl
@[simp] theorem State.report2_res2 (s : State) (r0 r1 : Word) :
    (s.report2 r0 r1).res2 = s.res2 := rfl
@[simp] theorem State.report2_cmdChannel (s : State) (r0 r1 : Word) :
    (s.report2 r0 r1).cmdChannel = s.cmdChannel := rfl
@[simp] theorem State.report2_keyChannel (s : State) (r0 r1 : Word) :
    (s.report2 r0 r1).keyChannel = s.keyChannel := rfl
@[simp] theorem State.report2_host (s : State) (r0 r1 : Word) :
    (s.report2 r0 r1).host = s.host := rfl
@[simp] theorem State.report2_resets (s : State) (r0 r1 : Word) :
    (s.report2 r0 r1).resets = s.resets := rfl

/-! ### report3 -/

@[simp] theorem State.report3_a (s : State) (r0 r1 r2 : Word) :
    (s.report3 r0 r1 r2).a = s.a := rfl
@[simp] theorem State.report3_b (s : State) (r0 r1 r2 : Word) :
    (s.report3 r0 r1 r2).b = s.b := rfl
@[simp] theorem State.report3_c (s : State) (r0 r1 r2 : Word) :
    (s.report3 r0 r1 r2).c = s.c := rfl
@[simp] theorem State.report3_h (s : State) (r0 r1 r2 : Word) :
    (s.report3 r0 r1 r2).h = s.h := rfl
@[simp] theorem State.report3_pk (s : State) (r0 r1 r2 : Word) :
    (s.report3 r0 r1 r2).pk = s.pk := rfl
@[simp] theorem State.report3_op (s : State) (r0 r1 r2 : Word) :
    (s.report3 r0 r1 r2).op = s.op := rfl
@[simp] theorem State.report3_len (s : State) (r0 r1 r2 : Word) :
    (s.report3 r0 r1 r2).len = s.len := rfl
@[simp] theorem State.report3_seed1 (s : State) (r0 r1 r2 : Word) :
    (s.report3 r0 r1 r2).seed1 = s.seed1 := rfl
@[simp] theorem State.report3_seed2 (s : State) (r0 r1 r2 : Word) :
    (s.report3 r0 r1 r2).seed2 = s.seed2 := rfl
@[simp] theorem State.report3_idx (s : State) (r0 r1 r2 : Word) :
    (s.report3 r0 r1 r2).idx = s.idx := rfl
@[simp] theorem State.report3_phase (s : State) (r0 r1 r2 : Word) :
    (s.report3 r0 r1 r2).phase = .done := rfl
@[simp] theorem State.report3_err (s : State) (r0 r1 r2 : Word) :
    (s.report3 r0 r1 r2).err = s.err := rfl
@[simp] theorem State.report3_nres (s : State) (r0 r1 r2 : Word) :
    (s.report3 r0 r1 r2).nres = 3 := rfl
@[simp] theorem State.report3_res0 (s : State) (r0 r1 r2 : Word) :
    (s.report3 r0 r1 r2).res0 = r0 := rfl
@[simp] theorem State.report3_res1 (s : State) (r0 r1 r2 : Word) :
    (s.report3 r0 r1 r2).res1 = r1 := rfl
@[simp] theorem State.report3_res2 (s : State) (r0 r1 r2 : Word) :
    (s.report3 r0 r1 r2).res2 = r2 := rfl
@[simp] theorem State.report3_cmdChannel (s : State) (r0 r1 r2 : Word) :
    (s.report3 r0 r1 r2).cmdChannel = s.cmdChannel := rfl
@[simp] theorem State.report3_keyChannel (s : State) (r0 r1 r2 : Word) :
    (s.report3 r0 r1 r2).keyChannel = s.keyChannel := rfl
@[simp] theorem State.report3_host (s : State) (r0 r1 r2 : Word) :
    (s.report3 r0 r1 r2).host = s.host := rfl
@[simp] theorem State.report3_resets (s : State) (r0 r1 r2 : Word) :
    (s.report3 r0 r1 r2).resets = s.resets := rfl

/-! ### finishAccumulator -/

@[simp] theorem State.finishAccumulator_a (s : State) :
    (s.finishAccumulator).a = s.a := by rw [State.finishAccumulator]
@[simp] theorem State.finishAccumulator_b (s : State) :
    (s.finishAccumulator).b = s.b := by rw [State.finishAccumulator]
@[simp] theorem State.finishAccumulator_c (s : State) :
    (s.finishAccumulator).c = s.c := by rw [State.finishAccumulator]
@[simp] theorem State.finishAccumulator_h (s : State) :
    (s.finishAccumulator).h = oaatFin s.h := by rw [State.finishAccumulator]
@[simp] theorem State.finishAccumulator_pk (s : State) :
    (s.finishAccumulator).pk = s.pk := by rw [State.finishAccumulator]
@[simp] theorem State.finishAccumulator_op (s : State) :
    (s.finishAccumulator).op = s.op := by rw [State.finishAccumulator]
@[simp] theorem State.finishAccumulator_len (s : State) :
    (s.finishAccumulator).len = s.len := by rw [State.finishAccumulator]
@[simp] theorem State.finishAccumulator_seed1 (s : State) :
    (s.finishAccumulator).seed1 = s.seed1 := by rw [State.finishAccumulator]
@[simp] theorem State.finishAccumulator_seed2 (s : State) :
    (s.finishAccumulator).seed2 = s.seed2 := by rw [State.finishAccumulator]
@[simp] theorem State.finishAccumulator_idx (s : State) :
    (s.finishAccumulator).idx = s.idx := by rw [State.finishAccumulator]
@[simp] theorem State.finishAccumulator_phase (s : State) :
    (s.finishAccumulator).phase = s.phase := by rw [State.finishAccumulator]
@[simp] theorem State.finishAccumulator_err (s : State) :
    (s.finishAccumulator).err = s.err := by rw [State.finishAccumulator]
@[simp] theorem State.finishAccumulator_nres (s : State) :
    (s.finishAccumulator).nres = s.nres := by rw [State.finishAccumulator]
@[simp] theorem State.finishAccumulator_res0 (s : State) :
    (s.finishAccumulator).res0 = s.res0 := by rw [State.finishAccumulator]
@[simp] theorem State.finishAccumulator_res1 (s : State) :
    (s.finishAccumulator).res1 = s.res1 := by rw [State.finishAccumulator]
@[simp] theorem State.finishAccumulator_res2 (s : State) :
    (s.finishAccumulator).res2 = s.res2 := by rw [State.finishAccumulator]
@[simp] theorem State.finishAccumulator_cmdChannel (s : State) :
    (s.finishAccumulator).cmdChannel = s.cmdChannel := by rw [State.finishAccumulator]
@[simp] theorem State.finishAccumulator_keyChannel (s : State) :
    (s.finishAccumulator).keyChannel = s.keyChannel := by rw [State.finishAccumulator]
@[simp] theorem State.finishAccumulator_host (s : State) :
    (s.finishAccumulator).host = s.host := by rw [State.finishAccumulator]
@[simp] theorem State.finishAccumulator_resets (s : State) :
    (s.finishAccumulator).resets = s.resets := by rw [State.finishAccumulator]

/-! ### oaatElement -/

@[simp] theorem State.oaatElement_a (s : State) (x : Byte) :
    (s.oaatElement x).a = s.a := rfl
@[simp] theorem State.oaatElement_b (s : State) (x : Byte) :
    (s.oaatElement x).b = s.b := rfl
@[simp] theorem State.oaatElement_c (s : State) (x : Byte) :
    (s.oaatElement x).c = s.c := rfl
@[simp] theorem State.oaatElement_h (s : State) (x : Byte) :
    (s.oaatElement x).h = oaatStep s.h x := rfl
@[simp] theorem State.oaatElement_pk (s : State) (x : Byte) :
    (s.oaatElement x).pk = s.pk := rfl
@[simp] theorem State.oaatElement_op (s : State) (x : Byte) :
    (s.oaatElement x).op = s.op := rfl
@[simp] theorem State.oaatElement_len (s : State) (x : Byte) :
    (s.oaatElement x).len = s.len := rfl
@[simp] theorem State.oaatElement_seed1 (s : State) (x : Byte) :
    (s.oaatElement x).seed1 = s.seed1 := rfl
@[simp] theorem State.oaatElement_seed2 (s : State) (x : Byte) :
    (s.oaatElement x).seed2 = s.seed2 := rfl
@[simp] theorem State.oaatElement_idx (s : State) (x : Byte) :
    (s.oaatElement x).idx = s.idx + 1 := rfl
@[simp] theorem State.oaatElement_phase (s : State) (x : Byte) :
    (s.oaatElement x).phase = s.phase := rfl
@[simp] theorem State.oaatElement_err (s : State) (x : Byte) :
    (s.oaatElement x).err = s.err := rfl
@[simp] theorem State.oaatElement_nres (s : State) (x : Byte) :
    (s.oaatElement x).nres = s.nres := rfl
@[simp] theorem State.oaatElement_res0 (s : State) (x : Byte) :
    (s.oaatElement x).res0 = s.res0 := rfl
@[simp] theorem State.oaatElement_res1 (s : State) (x : Byte) :
    (s.oaatElement x).res1 = s.res1 := rfl
@[simp] theorem State.oaatElement_res2 (s : State) (x : Byte) :
    (s.oaatElement x).res2 = s.res2 := rfl
@[simp] theorem State.oaatElement_cmdChannel (s : State) (x : Byte) :
    (s.oaatElement x).cmdChannel = s.cmdChannel := rfl
@[simp] theorem State.oaatElement_keyChannel (s : State) (x : Byte) :
    (s.oaatElement x).keyChannel = s.keyChannel := rfl
@[simp] theorem State.oaatElement_host (s : State) (x : Byte) :
    (s.oaatElement x).host = s.host := rfl
@[simp] theorem State.oaatElement_resets (s : State) (x : Byte) :
    (s.oaatElement x).resets = s.resets := rfl

/-! ### setCmdChannel -/

@[simp] theorem State.setCmdChannel_a (s : State) (ds : List Descriptor) :
    (s.setCmdChannel ds).a = s.a := rfl
@[simp] theorem State.setCmdChannel_b (s : State) (ds : List Descriptor) :
    (s.setCmdChannel ds).b = s.b := rfl
@[simp] theorem State.setCmdChannel_c (s : State) (ds : List Descriptor) :
    (s.setCmdChannel ds).c = s.c := rfl
@[simp] theorem State.setCmdChannel_h (s : State) (ds : List Descriptor) :
    (s.setCmdChannel ds).h = s.h := rfl
@[simp] theorem State.setCmdChannel_pk (s : State) (ds : List Descriptor) :
    (s.setCmdChannel ds).pk = s.pk := rfl
@[simp] theorem State.setCmdChannel_op (s : State) (ds : List Descriptor) :
    (s.setCmdChannel ds).op = s.op := rfl
@[simp] theorem State.setCmdChannel_len (s : State) (ds : List Descriptor) :
    (s.setCmdChannel ds).len = s.len := rfl
@[simp] theorem State.setCmdChannel_seed1 (s : State) (ds : List Descriptor) :
    (s.setCmdChannel ds).seed1 = s.seed1 := rfl
@[simp] theorem State.setCmdChannel_seed2 (s : State) (ds : List Descriptor) :
    (s.setCmdChannel ds).seed2 = s.seed2 := rfl
@[simp] theorem State.setCmdChannel_idx (s : State) (ds : List Descriptor) :
    (s.setCmdChannel ds).idx = s.idx := rfl
@[simp] theorem State.setCmdChannel_phase (s : State) (ds : List Descriptor) :
    (s.setCmdChannel ds).phase = s.phase := rfl
@[simp] theorem State.setCmdChannel_err (s : State) (ds : List Descriptor) :
    (s.setCmdChannel ds).err = s.err := rfl
@[simp] theorem State.setCmdChannel_nres (s : State) (ds : List Descriptor) :
    (s.setCmdChannel ds).nres = s.nres := rfl
@[simp] theorem State.setCmdChannel_res0 (s : State) (ds : List Descriptor) :
    (s.setCmdChannel ds).res0 = s.res0 := rfl
@[simp] theorem State.setCmdChannel_res1 (s : State) (ds : List Descriptor) :
    (s.setCmdChannel ds).res1 = s.res1 := rfl
@[simp] theorem State.setCmdChannel_res2 (s : State) (ds : List Descriptor) :
    (s.setCmdChannel ds).res2 = s.res2 := rfl
@[simp] theorem State.setCmdChannel_cmdChannel (s : State) (ds : List Descriptor) :
    (s.setCmdChannel ds).cmdChannel = ds := rfl
@[simp] theorem State.setCmdChannel_keyChannel (s : State) (ds : List Descriptor) :
    (s.setCmdChannel ds).keyChannel = s.keyChannel := rfl
@[simp] theorem State.setCmdChannel_host (s : State) (ds : List Descriptor) :
    (s.setCmdChannel ds).host = s.host := rfl
@[simp] theorem State.setCmdChannel_resets (s : State) (ds : List Descriptor) :
    (s.setCmdChannel ds).resets = s.resets := rfl

/-! ### setKeyChannel -/

@[simp] theorem State.setKeyChannel_a (s : State) (ks : List Word) :
    (s.setKeyChannel ks).a = s.a := rfl
@[simp] theorem State.setKeyChannel_b (s : State) (ks : List Word) :
    (s.setKeyChannel ks).b = s.b := rfl
@[simp] theorem State.setKeyChannel_c (s : State) (ks : List Word) :
    (s.setKeyChannel ks).c = s.c := rfl
@[simp] theorem State.setKeyChannel_h (s : State) (ks : List Word) :
    (s.setKeyChannel ks).h = s.h := rfl
@[simp] theorem State.setKeyChannel_pk (s : State) (ks : List Word) :
    (s.setKeyChannel ks).pk = s.pk := rfl
@[simp] theorem State.setKeyChannel_op (s : State) (ks : List Word) :
    (s.setKeyChannel ks).op = s.op := rfl
@[simp] theorem State.setKeyChannel_len (s : State) (ks : List Word) :
    (s.setKeyChannel ks).len = s.len := rfl
@[simp] theorem State.setKeyChannel_seed1 (s : State) (ks : List Word) :
    (s.setKeyChannel ks).seed1 = s.seed1 := rfl
@[simp] theorem State.setKeyChannel_seed2 (s : State) (ks : List Word) :
    (s.setKeyChannel ks).seed2 = s.seed2 := rfl
@[simp] theorem State.setKeyChannel_idx (s : State) (ks : List Word) :
    (s.setKeyChannel ks).idx = s.idx := rfl
@[simp] theorem State.setKeyChannel_phase (s : State) (ks : List Word) :
    (s.setKeyChannel ks).phase = s.phase := rfl
@[simp] theorem State.setKeyChannel_err (s : State) (ks : List Word) :
    (s.setKeyChannel ks).err = s.err := rfl
@[simp] theorem State.setKeyChannel_nres (s : State) (ks : List Word) :
    (s.setKeyChannel ks).nres = s.nres := rfl
@[simp] theorem State.setKeyChannel_res0 (s : State) (ks : List Word) :
    (s.setKeyChannel ks).res0 = s.res0 := rfl
@[simp] theorem State.setKeyChannel_res1 (s : State) (ks : List Word) :
    (s.setKeyChannel ks).res1 = s.res1 := rfl
@[simp] theorem State.setKeyChannel_res2 (s : State) (ks : List Word) :
    (s.setKeyChannel ks).res2 = s.res2 := rfl
@[simp] theorem State.setKeyChannel_cmdChannel (s : State) (ks : List Word) :
    (s.setKeyChannel ks).cmdChannel = s.cmdChannel := rfl
@[simp] theorem State.setKeyChannel_keyChannel (s : State) (ks : List Word) :
    (s.setKeyChannel ks).keyChannel = ks := rfl
@[simp] theorem State.setKeyChannel_host (s : State) (ks : List Word) :
    (s.setKeyChannel ks).host = s.host := rfl
@[simp] theorem State.setKeyChannel_resets (s : State) (ks : List Word) :
    (s.setKeyChannel ks).resets = s.resets := rfl

/-! ### setHost -/

@[simp] theorem State.setHost_a (s : State) (ms : List HostMove) :
    (s.setHost ms).a = s.a := rfl
@[simp] theorem State.setHost_b (s : State) (ms : List HostMove) :
    (s.setHost ms).b = s.b := rfl
@[simp] theorem State.setHost_c (s : State) (ms : List HostMove) :
    (s.setHost ms).c = s.c := rfl
@[simp] theorem State.setHost_h (s : State) (ms : List HostMove) :
    (s.setHost ms).h = s.h := rfl
@[simp] theorem State.setHost_pk (s : State) (ms : List HostMove) :
    (s.setHost ms).pk = s.pk := rfl
@[simp] theorem State.setHost_op (s : State) (ms : List HostMove) :
    (s.setHost ms).op = s.op := rfl
@[simp] theorem State.setHost_len (s : State) (ms : List HostMove) :
    (s.setHost ms).len = s.len := rfl
@[simp] theorem State.setHost_seed1 (s : State) (ms : List HostMove) :
    (s.setHost ms).seed1 = s.seed1 := rfl
@[simp] theorem State.setHost_seed2 (s : State) (ms : List HostMove) :
    (s.setHost ms).seed2 = s.seed2 := rfl
@[simp] theorem State.setHost_idx (s : State) (ms : List HostMove) :
    (s.setHost ms).idx = s.idx := rfl
@[simp] theorem State.setHost_phase (s : State) (ms : List HostMove) :
    (s.setHost ms).phase = s.phase := rfl
@[simp] theorem State.setHost_err (s : State) (ms : List HostMove) :
    (s.setHost ms).err = s.err := rfl
@[simp] theorem State.setHost_nres (s : State) (ms : List HostMove) :
    (s.setHost ms).nres = s.nres := rfl
@[simp] theorem State.setHost_res0 (s : State) (ms : List HostMove) :
    (s.setHost ms).res0 = s.res0 := rfl
@[simp] theorem State.setHost_res1 (s : State) (ms : List HostMove) :
    (s.setHost ms).res1 = s.res1 := rfl
@[simp] theorem State.setHost_res2 (s : State) (ms : List HostMove) :
    (s.setHost ms).res2 = s.res2 := rfl
@[simp] theorem State.setHost_cmdChannel (s : State) (ms : List HostMove) :
    (s.setHost ms).cmdChannel = s.cmdChannel := rfl
@[simp] theorem State.setHost_keyChannel (s : State) (ms : List HostMove) :
    (s.setHost ms).keyChannel = s.keyChannel := rfl
@[simp] theorem State.setHost_host (s : State) (ms : List HostMove) :
    (s.setHost ms).host = ms := rfl
@[simp] theorem State.setHost_resets (s : State) (ms : List HostMove) :
    (s.setHost ms).resets = s.resets := rfl

/-! ### addToLane -/

@[simp] theorem State.addToLane_a (s : State) (i : Lane) (w : Word) :
    (s.addToLane i w).a = (s.lanes.addTo i w).a := rfl
@[simp] theorem State.addToLane_b (s : State) (i : Lane) (w : Word) :
    (s.addToLane i w).b = (s.lanes.addTo i w).b := rfl
@[simp] theorem State.addToLane_c (s : State) (i : Lane) (w : Word) :
    (s.addToLane i w).c = (s.lanes.addTo i w).c := rfl
@[simp] theorem State.addToLane_h (s : State) (i : Lane) (w : Word) :
    (s.addToLane i w).h = s.h := rfl
@[simp] theorem State.addToLane_pk (s : State) (i : Lane) (w : Word) :
    (s.addToLane i w).pk = s.pk := rfl
@[simp] theorem State.addToLane_op (s : State) (i : Lane) (w : Word) :
    (s.addToLane i w).op = s.op := rfl
@[simp] theorem State.addToLane_len (s : State) (i : Lane) (w : Word) :
    (s.addToLane i w).len = s.len := rfl
@[simp] theorem State.addToLane_seed1 (s : State) (i : Lane) (w : Word) :
    (s.addToLane i w).seed1 = s.seed1 := rfl
@[simp] theorem State.addToLane_seed2 (s : State) (i : Lane) (w : Word) :
    (s.addToLane i w).seed2 = s.seed2 := rfl
@[simp] theorem State.addToLane_idx (s : State) (i : Lane) (w : Word) :
    (s.addToLane i w).idx = s.idx := rfl
@[simp] theorem State.addToLane_phase (s : State) (i : Lane) (w : Word) :
    (s.addToLane i w).phase = s.phase := rfl
@[simp] theorem State.addToLane_err (s : State) (i : Lane) (w : Word) :
    (s.addToLane i w).err = s.err := rfl
@[simp] theorem State.addToLane_nres (s : State) (i : Lane) (w : Word) :
    (s.addToLane i w).nres = s.nres := rfl
@[simp] theorem State.addToLane_res0 (s : State) (i : Lane) (w : Word) :
    (s.addToLane i w).res0 = s.res0 := rfl
@[simp] theorem State.addToLane_res1 (s : State) (i : Lane) (w : Word) :
    (s.addToLane i w).res1 = s.res1 := rfl
@[simp] theorem State.addToLane_res2 (s : State) (i : Lane) (w : Word) :
    (s.addToLane i w).res2 = s.res2 := rfl
@[simp] theorem State.addToLane_cmdChannel (s : State) (i : Lane) (w : Word) :
    (s.addToLane i w).cmdChannel = s.cmdChannel := rfl
@[simp] theorem State.addToLane_keyChannel (s : State) (i : Lane) (w : Word) :
    (s.addToLane i w).keyChannel = s.keyChannel := rfl
@[simp] theorem State.addToLane_host (s : State) (i : Lane) (w : Word) :
    (s.addToLane i w).host = s.host := rfl
@[simp] theorem State.addToLane_resets (s : State) (i : Lane) (w : Word) :
    (s.addToLane i w).resets = s.resets := rfl

/-! ### mixLanes -/

@[simp] theorem State.mixLanes_a (s : State) :
    (s.mixLanes).a = (mix3 s.lanes).a := rfl
@[simp] theorem State.mixLanes_b (s : State) :
    (s.mixLanes).b = (mix3 s.lanes).b := rfl
@[simp] theorem State.mixLanes_c (s : State) :
    (s.mixLanes).c = (mix3 s.lanes).c := rfl
@[simp] theorem State.mixLanes_h (s : State) :
    (s.mixLanes).h = s.h := rfl
@[simp] theorem State.mixLanes_pk (s : State) :
    (s.mixLanes).pk = s.pk := rfl
@[simp] theorem State.mixLanes_op (s : State) :
    (s.mixLanes).op = s.op := rfl
@[simp] theorem State.mixLanes_len (s : State) :
    (s.mixLanes).len = s.len := rfl
@[simp] theorem State.mixLanes_seed1 (s : State) :
    (s.mixLanes).seed1 = s.seed1 := rfl
@[simp] theorem State.mixLanes_seed2 (s : State) :
    (s.mixLanes).seed2 = s.seed2 := rfl
@[simp] theorem State.mixLanes_idx (s : State) :
    (s.mixLanes).idx = s.idx := rfl
@[simp] theorem State.mixLanes_phase (s : State) :
    (s.mixLanes).phase = s.phase := rfl
@[simp] theorem State.mixLanes_err (s : State) :
    (s.mixLanes).err = s.err := rfl
@[simp] theorem State.mixLanes_nres (s : State) :
    (s.mixLanes).nres = s.nres := rfl
@[simp] theorem State.mixLanes_res0 (s : State) :
    (s.mixLanes).res0 = s.res0 := rfl
@[simp] theorem State.mixLanes_res1 (s : State) :
    (s.mixLanes).res1 = s.res1 := rfl
@[simp] theorem State.mixLanes_res2 (s : State) :
    (s.mixLanes).res2 = s.res2 := rfl
@[simp] theorem State.mixLanes_cmdChannel (s : State) :
    (s.mixLanes).cmdChannel = s.cmdChannel := rfl
@[simp] theorem State.mixLanes_keyChannel (s : State) :
    (s.mixLanes).keyChannel = s.keyChannel := rfl
@[simp] theorem State.mixLanes_host (s : State) :
    (s.mixLanes).host = s.host := rfl
@[simp] theorem State.mixLanes_resets (s : State) :
    (s.mixLanes).resets = s.resets := rfl

/-! ### finalLanes -/

@[simp] theorem State.finalLanes_a (s : State) :
    (s.finalLanes).a = (final3 s.lanes).a := rfl
@[simp] theorem State.finalLanes_b (s : State) :
    (s.finalLanes).b = (final3 s.lanes).b := rfl
@[simp] theorem State.finalLanes_c (s : State) :
    (s.finalLanes).c = (final3 s.lanes).c := rfl
@[simp] theorem State.finalLanes_h (s : State) :
    (s.finalLanes).h = s.h := rfl
@[simp] theorem State.finalLanes_pk (s : State) :
    (s.finalLanes).pk = s.pk := rfl
@[simp] theorem State.finalLanes_op (s : State) :
    (s.finalLanes).op = s.op := rfl
@[simp] theorem State.finalLanes_len (s : State) :
    (s.finalLanes).len = s.len := rfl
@[simp] theorem State.finalLanes_seed1 (s : State) :
    (s.finalLanes).seed1 = s.seed1 := rfl
@[simp] theorem State.finalLanes_seed2 (s : State) :
    (s.finalLanes).seed2 = s.seed2 := rfl
@[simp] theorem State.finalLanes_idx (s : State) :
    (s.finalLanes).idx = s.idx := rfl
@[simp] theorem State.finalLanes_phase (s : State) :
    (s.finalLanes).phase = s.phase := rfl
@[simp] theorem State.finalLanes_err (s : State) :
    (s.finalLanes).err = s.err := rfl
@[simp] theorem State.finalLanes_nres (s : State) :
    (s.finalLanes).nres = s.nres := rfl
@[simp] theorem State.finalLanes_res0 (s : State) :
    (s.finalLanes).res0 = s.res0 := rfl
@[simp] theorem State.finalLanes_res1 (s : State) :
    (s.finalLanes).res1 = s.res1 := rfl
@[simp] theorem State.finalLanes_res2 (s : State) :
    (s.finalLanes).res2 = s.res2 := rfl
@[simp] theorem State.finalLanes_cmdChannel (s : State) :
    (s.finalLanes).cmdChannel = s.cmdChannel := rfl
@[simp] theorem State.finalLanes_keyChannel (s : State) :
    (s.finalLanes).keyChannel = s.keyChannel := rfl
@[simp] theorem State.finalLanes_host (s : State) :
    (s.finalLanes).host = s.host := rfl
@[simp] theorem State.finalLanes_resets (s : State) :
    (s.finalLanes).resets = s.resets := rfl

/-! ### initWord -/

@[simp] theorem State.initWord_a (s : State) :
    (s.initWord).a = (initLanes (initConstant + (s.len <<< 2) + s.seed1) s.seed2).a := rfl
@[simp] theorem State.initWord_b (s : State) :
    (s.initWord).b = (initLanes (initConstant + (s.len <<< 2) + s.seed1) s.seed2).b := rfl
@[simp] theorem State.initWord_c (s : State) :
    (s.initWord).c = (initLanes (initConstant + (s.len <<< 2) + s.seed1) s.seed2).c := rfl
@[simp] theorem State.initWord_h (s : State) :
    (s.initWord).h = s.h := rfl
@[simp] theorem State.initWord_pk (s : State) :
    (s.initWord).pk = s.pk := rfl
@[simp] theorem State.initWord_op (s : State) :
    (s.initWord).op = s.op := rfl
@[simp] theorem State.initWord_len (s : State) :
    (s.initWord).len = s.len := rfl
@[simp] theorem State.initWord_seed1 (s : State) :
    (s.initWord).seed1 = s.seed1 := rfl
@[simp] theorem State.initWord_seed2 (s : State) :
    (s.initWord).seed2 = s.seed2 := rfl
@[simp] theorem State.initWord_idx (s : State) :
    (s.initWord).idx = s.idx := rfl
@[simp] theorem State.initWord_phase (s : State) :
    (s.initWord).phase = s.phase := rfl
@[simp] theorem State.initWord_err (s : State) :
    (s.initWord).err = s.err := rfl
@[simp] theorem State.initWord_nres (s : State) :
    (s.initWord).nres = s.nres := rfl
@[simp] theorem State.initWord_res0 (s : State) :
    (s.initWord).res0 = s.res0 := rfl
@[simp] theorem State.initWord_res1 (s : State) :
    (s.initWord).res1 = s.res1 := rfl
@[simp] theorem State.initWord_res2 (s : State) :
    (s.initWord).res2 = s.res2 := rfl
@[simp] theorem State.initWord_cmdChannel (s : State) :
    (s.initWord).cmdChannel = s.cmdChannel := rfl
@[simp] theorem State.initWord_keyChannel (s : State) :
    (s.initWord).keyChannel = s.keyChannel := rfl
@[simp] theorem State.initWord_host (s : State) :
    (s.initWord).host = s.host := rfl
@[simp] theorem State.initWord_resets (s : State) :
    (s.initWord).resets = s.resets := rfl

/-! ### initBytes -/

@[simp] theorem State.initBytes_a (s : State) :
    (s.initBytes).a = (initLanes (initConstant + s.len + s.seed1) s.seed2).a := rfl
@[simp] theorem State.initBytes_b (s : State) :
    (s.initBytes).b = (initLanes (initConstant + s.len + s.seed1) s.seed2).b := rfl
@[simp] theorem State.initBytes_c (s : State) :
    (s.initBytes).c = (initLanes (initConstant + s.len + s.seed1) s.seed2).c := rfl
@[simp] theorem State.initBytes_h (s : State) :
    (s.initBytes).h = s.h := rfl
@[simp] theorem State.initBytes_pk (s : State) :
    (s.initBytes).pk = 0 := rfl
@[simp] theorem State.initBytes_op (s : State) :
    (s.initBytes).op = s.op := rfl
@[simp] theorem State.initBytes_len (s : State) :
    (s.initBytes).len = s.len := rfl
@[simp] theorem State.initBytes_seed1 (s : State) :
    (s.initBytes).seed1 = s.seed1 := rfl
@[simp] theorem State.initBytes_seed2 (s : State) :
    (s.initBytes).seed2 = s.seed2 := rfl
@[simp] theorem State.initBytes_idx (s : State) :
    (s.initBytes).idx = s.idx := rfl
@[simp] theorem State.initBytes_phase (s : State) :
    (s.initBytes).phase = s.phase := rfl
@[simp] theorem State.initBytes_err (s : State) :
    (s.initBytes).err = s.err := rfl
@[simp] theorem State.initBytes_nres (s : State) :
    (s.initBytes).nres = s.nres := rfl
@[simp] theorem State.initBytes_res0 (s : State) :
    (s.initBytes).res0 = s.res0 := rfl
@[simp] theorem State.initBytes_res1 (s : State) :
    (s.initBytes).res1 = s.res1 := rfl
@[simp] theorem State.initBytes_res2 (s : State) :
    (s.initBytes).res2 = s.res2 := rfl
@[simp] theorem State.initBytes_cmdChannel (s : State) :
    (s.initBytes).cmdChannel = s.cmdChannel := rfl
@[simp] theorem State.initBytes_keyChannel (s : State) :
    (s.initBytes).keyChannel = s.keyChannel := rfl
@[simp] theorem State.initBytes_host (s : State) :
    (s.initBytes).host = s.host := rfl
@[simp] theorem State.initBytes_resets (s : State) :
    (s.initBytes).resets = s.resets := rfl

/-! ### flushPk -/

@[simp] theorem State.flushPk_a (s : State) (i : Word) :
    (s.flushPk i).a = (s.lanes.addTo (laneOfByteIndex i) s.pk).a := rfl
@[simp] theorem State.flushPk_b (s : State) (i : Word) :
    (s.flushPk i).b = (s.lanes.addTo (laneOfByteIndex i) s.pk).b := rfl
@[simp] theorem State.flushPk_c (s : State) (i : Word) :
    (s.flushPk i).c = (s.lanes.addTo (laneOfByteIndex i) s.pk).c := rfl
@[simp] theorem State.flushPk_h (s : State) (i : Word) :
    (s.flushPk i).h = s.h := rfl
@[simp] theorem State.flushPk_pk (s : State) (i : Word) :
    (s.flushPk i).pk = 0 := rfl
@[simp] theorem State.flushPk_op (s : State) (i : Word) :
    (s.flushPk i).op = s.op := rfl
@[simp] theorem State.flushPk_len (s : State) (i : Word) :
    (s.flushPk i).len = s.len := rfl
@[simp] theorem State.flushPk_seed1 (s : State) (i : Word) :
    (s.flushPk i).seed1 = s.seed1 := rfl
@[simp] theorem State.flushPk_seed2 (s : State) (i : Word) :
    (s.flushPk i).seed2 = s.seed2 := rfl
@[simp] theorem State.flushPk_idx (s : State) (i : Word) :
    (s.flushPk i).idx = s.idx := rfl
@[simp] theorem State.flushPk_phase (s : State) (i : Word) :
    (s.flushPk i).phase = s.phase := rfl
@[simp] theorem State.flushPk_err (s : State) (i : Word) :
    (s.flushPk i).err = s.err := rfl
@[simp] theorem State.flushPk_nres (s : State) (i : Word) :
    (s.flushPk i).nres = s.nres := rfl
@[simp] theorem State.flushPk_res0 (s : State) (i : Word) :
    (s.flushPk i).res0 = s.res0 := rfl
@[simp] theorem State.flushPk_res1 (s : State) (i : Word) :
    (s.flushPk i).res1 = s.res1 := rfl
@[simp] theorem State.flushPk_res2 (s : State) (i : Word) :
    (s.flushPk i).res2 = s.res2 := rfl
@[simp] theorem State.flushPk_cmdChannel (s : State) (i : Word) :
    (s.flushPk i).cmdChannel = s.cmdChannel := rfl
@[simp] theorem State.flushPk_keyChannel (s : State) (i : Word) :
    (s.flushPk i).keyChannel = s.keyChannel := rfl
@[simp] theorem State.flushPk_host (s : State) (i : Word) :
    (s.flushPk i).host = s.host := rfl
@[simp] theorem State.flushPk_resets (s : State) (i : Word) :
    (s.flushPk i).resets = s.resets := rfl

/-! ### applyReset -/

@[simp] theorem State.applyReset_a (s : State) :
    (s.applyReset).a = Config.unspecifiedWord s.resets .a := rfl
@[simp] theorem State.applyReset_b (s : State) :
    (s.applyReset).b = Config.unspecifiedWord s.resets .b := rfl
@[simp] theorem State.applyReset_c (s : State) :
    (s.applyReset).c = Config.unspecifiedWord s.resets .c := rfl
@[simp] theorem State.applyReset_h (s : State) :
    (s.applyReset).h = Config.unspecifiedWord s.resets .h := rfl
@[simp] theorem State.applyReset_pk (s : State) :
    (s.applyReset).pk = Config.unspecifiedWord s.resets .pk := rfl
@[simp] theorem State.applyReset_op (s : State) :
    (s.applyReset).op = Config.unspecifiedOp s.resets := rfl
@[simp] theorem State.applyReset_len (s : State) :
    (s.applyReset).len = Config.unspecifiedWord s.resets .len := rfl
@[simp] theorem State.applyReset_seed1 (s : State) :
    (s.applyReset).seed1 = Config.unspecifiedWord s.resets .seed1 := rfl
@[simp] theorem State.applyReset_seed2 (s : State) :
    (s.applyReset).seed2 = Config.unspecifiedWord s.resets .seed2 := rfl
@[simp] theorem State.applyReset_idx (s : State) :
    (s.applyReset).idx = Config.unspecifiedWord s.resets .idx := rfl
@[simp] theorem State.applyReset_phase (s : State) :
    (s.applyReset).phase = .idle := rfl
@[simp] theorem State.applyReset_err (s : State) :
    (s.applyReset).err = .none := rfl
@[simp] theorem State.applyReset_nres (s : State) :
    (s.applyReset).nres = 0 := rfl
@[simp] theorem State.applyReset_res0 (s : State) :
    (s.applyReset).res0 = Config.unspecifiedWord s.resets .res0 := rfl
@[simp] theorem State.applyReset_res1 (s : State) :
    (s.applyReset).res1 = Config.unspecifiedWord s.resets .res1 := rfl
@[simp] theorem State.applyReset_res2 (s : State) :
    (s.applyReset).res2 = Config.unspecifiedWord s.resets .res2 := rfl
@[simp] theorem State.applyReset_cmdChannel (s : State) :
    (s.applyReset).cmdChannel = s.cmdChannel := rfl
@[simp] theorem State.applyReset_keyChannel (s : State) :
    (s.applyReset).keyChannel = s.keyChannel := rfl
@[simp] theorem State.applyReset_host (s : State) :
    (s.applyReset).host = s.host := rfl
@[simp] theorem State.applyReset_resets (s : State) :
    (s.applyReset).resets = s.resets + 1 := rfl

end Sys2Proof.Machine
end

