-- ==== Sys2Proof/Laws/Ops.lean ====
section
/-! SUPPORT. One lemma per shared operation that says once what it does: the parts of the CMD, KEY and FINISH steps as one
record each, the transforms' lane updates, the ready conditions. The provers cite these instead of unfolding. -/

namespace Sys2Proof.Machine

/-! ### Lanes -/

theorem Lanes.addTo_a (l : Lanes) (w : Word) : l.addTo .a w = { l with a := l.a + w } := rfl
theorem Lanes.addTo_b (l : Lanes) (w : Word) : l.addTo .b w = { l with b := l.b + w } := rfl
theorem Lanes.addTo_c (l : Lanes) (w : Word) : l.addTo .c w = { l with c := l.c + w } := rfl

/-- Additions to lanes commute: they may be made in any order (R175). -/
theorem Lanes.addTo_comm (l : Lanes) (i j : Lane) (v w : Word) :
    (l.addTo i v).addTo j w = (l.addTo j w).addTo i v := by
  cases i <;> cases j <;> simp [Lanes.addTo, add_right_comm]

/-- Two additions to one lane are one (R175). -/
theorem Lanes.addTo_addTo (l : Lanes) (i : Lane) (v w : Word) :
    (l.addTo i v).addTo i w = l.addTo i (v + w) := by
  cases i <;> simp [Lanes.addTo, BitVec.add_assoc]

theorem Lanes.addTo_zero (l : Lanes) (i : Lane) : l.addTo i 0 = l := by
  cases i <;> simp [Lanes.addTo]

/-- The second seed goes to lane b (R152, R176). -/
theorem initLanes_eq (t seed2 : Word) : initLanes t seed2 = { a := t, b := t + seed2, c := t } := rfl

/-! ### The ready conditions -/

theorem State.cmdReady_iff (s : State) : s.cmdReady = true ↔ s.phase ≠ .run := by simp [State.cmdReady]

theorem State.keyReady_iff (s : State) : s.keyReady = true ↔ s.phase = .run ∧ s.idx < s.len := by
  simp [State.keyReady]

theorem State.finishEnabled_iff (s : State) : s.finishEnabled = true ↔ s.phase = .run ∧ s.idx = s.len := by
  simp [State.finishEnabled]

/-- An accepted command takes its effect. -/
theorem whenCmdReady_ready (s : State) (f : State → State) (h : s.phase ≠ .run) :
    whenCmdReady s f = .next (f s) := by
  simp [whenCmdReady, State.cmdReady, h]

/-- A command offered while phase = RUN changes nothing (R101). -/
theorem whenCmdReady_busy (s : State) (f : State → State) (h : s.phase = .run) :
    whenCmdReady s f = .next s := by
  simp [whenCmdReady, State.cmdReady, h]

/-- What `whenCmdReady` can answer. -/
theorem whenCmdReady_cases {s t : State} {f : State → State} (h : whenCmdReady s f = .next t) :
    (s.phase ≠ .run ∧ t = f s) ∨ (s.phase = .run ∧ t = s) := by
  by_cases hp : s.phase = .run
  · rw [whenCmdReady_busy s f hp] at h
    exact .inr ⟨hp, (Host.Outcome.next.inj h).symm⟩
  · rw [whenCmdReady_ready s f hp] at h
    exact .inl ⟨hp, (Host.Outcome.next.inj h).symm⟩

/-! ### The CMD step of each format, as one record -/

theorem State.acceptTriple_eq (s : State) (o : Opcode) (x y z : Word) :
    s.acceptTriple o x y z =
      { s with op := o.bits, a := x, b := y, c := z, len := 0, idx := 0, err := .none, nres := 0, phase := .run } :=
  rfl

theorem State.acceptWords_zero (s : State) (o : Opcode) (x y : Word) :
    s.acceptWords o 0 x y =
      { s with op := o.bits, len := 0, seed1 := x, seed2 := y, err := .invalidInput, nres := 0, phase := .err } :=
  rfl

theorem State.acceptWords_pos (s : State) (o : Opcode) (n x y : Word) (h : n ≠ 0) :
    s.acceptWords o n x y =
      { s with
        op := o.bits, len := n, seed1 := x, seed2 := y
        a := initConstant + (n <<< 2) + x, b := initConstant + (n <<< 2) + x + y, c := initConstant + (n <<< 2) + x
        idx := 0, err := .none, nres := 0, phase := .run } := by
  unfold State.acceptWords
  exact if_neg h

theorem State.acceptBytes_eq (s : State) (o : Opcode) (n x y : Word) :
    s.acceptBytes o n x y =
      { s with
        op := o.bits, len := n, seed1 := x, seed2 := y, pk := 0
        a := initConstant + n + x, b := initConstant + n + x + y, c := initConstant + n + x
        idx := 0, err := .none, nres := 0, phase := .run } :=
  rfl

theorem State.acceptOneAtATime_eq (s : State) (o : Opcode) (n : Word) :
    s.acceptOneAtATime o n =
      { s with op := o.bits, len := n, h := 0, idx := 0, err := .none, nres := 0, phase := .run } :=
  rfl

theorem State.acceptIllegal_eq (s : State) :
    s.acceptIllegal = { s with phase := .err, err := .illegalCommand, nres := 0 } :=
  rfl

/-! ### The element rules, with the configuration of this hardware -/

/-- The lanes after an element was added and, when it completes a block, mixed. -/
theorem State.mixAfterBlock_eq (s : State) (n : Nat) :
    s.mixAfterBlock n = s.setLanes (if s.idx.toNat % n = 0 then mix3 s.lanes else s.lanes) := by
  unfold State.mixAfterBlock
  by_cases h : s.idx.toNat % n = 0
  · simp [h, Config.mixLastFullBlock, State.mixLanes]
  · simp [h, State.setLanes, State.lanes]

theorem State.mixBeforeBlock_eq (s : State) (n : Nat) : s.mixBeforeBlock n = s := by
  simp [State.mixBeforeBlock, Config.mixLastFullBlock]

/-- `word_element` as one record (R153). -/
theorem State.wordElement_eq (s : State) (w : Word) :
    s.wordElement w =
      { s.setLanes
          (if (s.idx + 1).toNat % 3 = 0 then mix3 (s.lanes.addTo (laneOfWordIndex s.idx) w)
           else s.lanes.addTo (laneOfWordIndex s.idx) w) with
        idx := s.idx + 1 } := by
  unfold State.wordElement
  rw [State.mixBeforeBlock_eq]
  simp only [State.mixAfterBlock_eq]
  rfl

/-- `byte_element_le` and `byte_element_be` as one record (R173, R193). -/
theorem State.byteElement_eq (s : State) (ord : ByteOrder) (x : Byte) :
    s.byteElement ord x =
      (let p := s.pk ||| placeByte ord (bytePosition s.idx) x
       let l := if bytePosition s.idx = 3 then s.lanes.addTo (laneOfByteIndex s.idx) p else s.lanes
       { s.setLanes (if (s.idx + 1).toNat % 12 = 0 then mix3 l else l) with
         pk := if bytePosition s.idx = 3 then 0 else p
         idx := s.idx + 1 }) := by
  unfold State.byteElement
  rw [State.mixBeforeBlock_eq]
  simp only [State.mixAfterBlock_eq]
  by_cases h : bytePosition s.idx = 3 <;>
    simp [h, State.setLanes, State.lanes, State.flushPk, State.addToLane, State.orIntoPk, State.advanceIdx]

/-- `flush_partial_word` as one record (R178, R194). -/
theorem State.flushPartialWord_eq (s : State) :
    s.flushPartialWord =
      { s.setLanes (if s.len.toNat % 4 = 0 then s.lanes else s.lanes.addTo (laneOfByteIndex s.len) s.pk) with
        pk := if s.len.toNat % 4 = 0 then s.pk else 0 } := by
  unfold State.flushPartialWord
  by_cases h : s.len.toNat % 4 = 0 <;>
    simp [h, State.setLanes, State.lanes, State.flushPk, State.addToLane]

/-- `final3` is applied for every length (R179). -/
theorem State.finalBytes_eq (s : State) : s.finalBytes = s.finalLanes := by
  simp [State.finalBytes, Config.finalOnEmptyTail]

/-! ### Opcodes -/

/-- Every opcode is found by its bits (R71). -/
theorem Opcode_ofBits_bits (o : Opcode) : Opcode.ofBits? o.bits = some o := by
  cases o <;> rfl

/-- Which bits name an opcode (R71). -/
theorem Opcode_ofBits_eq_some (v : BitVec 8) (o : Opcode) : Opcode.ofBits? v = some o ↔ v = o.bits := by
  constructor
  · intro h
    unfold Opcode.ofBits? at h
    split at h <;> cases h <;> exact BitVec.eq_of_toNat_eq (by assumption)
  · rintro rfl
    exact Opcode_ofBits_bits o

/-- Which bits name none (R78). -/
theorem Opcode_ofBits_eq_none (v : BitVec 8) : Opcode.ofBits? v = none ↔ 8 ≤ v.toNat := by
  constructor
  · intro h
    by_contra hv
    have hb : v = (Opcode.mix).bits ∨ v = (Opcode.final).bits ∨ v = (Opcode.hashword).bits ∨
        v = (Opcode.hashword2).bits ∨ v = (Opcode.hashlittle).bits ∨ v = (Opcode.hashlittle2).bits ∨
        v = (Opcode.hashbig).bits ∨ v = (Opcode.oneatatime).bits := by
      simp only [Opcode.bits]
      bv_omega
    rcases hb with hb | hb | hb | hb | hb | hb | hb | hb <;> rw [hb, Opcode_ofBits_bits] at h <;> cases h
  · intro hv
    cases ho : Opcode.ofBits? v with
    | none => rfl
    | some o =>
      rw [(Opcode_ofBits_eq_some v o).1 ho] at hv
      cases o <;> simp [Opcode.bits] at hv

end Sys2Proof.Machine
end

