-- ==== Sys2Proof/Laws/Sequencer.lean ====
section
/-! SUPPORT. What a step can do, said once: the arms of `exec`, the KEY and FINISH steps by opcode, and the cases of the
block's step and of the machine's. Every whole-machine claim is a case analysis over `step_cases`. -/

namespace Sys2Proof.Machine

/-! ### The CMD step of each command when the block is ready -/

/-- The CMD step of a command when the block is ready for it. -/
def acceptInstr (i : Instr) (s : State) : State :=
  match i with
  | .mix x y z => s.acceptTriple .mix x y z
  | .final x y z => s.acceptTriple .final x y z
  | .hashword n x => s.acceptWords .hashword n x 0
  | .hashword2 n x y => s.acceptWords .hashword2 n x y
  | .hashlittle n x => s.acceptBytes .hashlittle n x 0
  | .hashlittle2 n x y => s.acceptBytes .hashlittle2 n x y
  | .hashbig n x => s.acceptBytes .hashbig n x 0
  | .oneatatime n => s.acceptOneAtATime .oneatatime n

/-- Every command is its CMD step, under the ready condition (R101, R102). -/
theorem exec_eq (i : Instr) (s : State) : exec i s = whenCmdReady s (acceptInstr i) := by
  cases i <;> rfl

theorem exec_ready (i : Instr) (s : State) (h : s.phase ≠ .run) : exec i s = .next (acceptInstr i s) := by
  rw [exec_eq, whenCmdReady_ready s _ h]

/-- A word command with LEN = 0 is the only command that raises (R220, R222). -/
theorem acceptInstr_phase (i : Instr) (s : State) :
    (acceptInstr i s).phase = .run ∨
      (acceptInstr i s).phase = .err ∧ (acceptInstr i s).err = .invalidInput ∧ (acceptInstr i s).len = 0 := by
  cases i with
  | hashword n x =>
    by_cases h : n = 0
    · subst h; exact .inr ⟨rfl, rfl, rfl⟩
    · left; simp only [acceptInstr, State.acceptWords_pos s _ n x 0 h]
  | hashword2 n x y =>
    by_cases h : n = 0
    · subst h; exact .inr ⟨rfl, rfl, rfl⟩
    · left; simp only [acceptInstr, State.acceptWords_pos s _ n x y h]
  | _ => exact .inl rfl

/-- The CMD step of a descriptor when the block is ready: the command it selects, or IllegalCommand. -/
theorem cmdStep_ready (d : Descriptor) (s : State) (h : s.phase ≠ .run) :
    (∃ i, decode d = .ok i ∧ cmdStep d s = .next (acceptInstr i s)) ∨
      (∃ e, decode d = .error e ∧ cmdStep d s = .next s.acceptIllegal) := by
  unfold cmdStep
  cases hd : decode d with
  | ok i => exact .inl ⟨i, rfl, exec_ready i s h⟩
  | error e => exact .inr ⟨e, rfl, whenCmdReady_ready s _ h⟩

/-! ### The KEY and the FINISH step by opcode -/

/-- What a KEY step that goes on has done (R104). -/
theorem keyStep_cases {k : Word} {s t : State} (h : keyStep k s = .next t) :
    ((s.op = Opcode.hashword.bits ∨ s.op = Opcode.hashword2.bits) ∧ t = s.wordElement k) ∨
      ((s.op = Opcode.hashlittle.bits ∨ s.op = Opcode.hashlittle2.bits) ∧
        t = s.byteElement .little (elementByte k)) ∨
      (s.op = Opcode.hashbig.bits ∧ t = s.byteElement .big (elementByte k)) ∨
      (s.op = Opcode.oneatatime.bits ∧ t = s.oaatElement (elementByte k)) := by
  unfold keyStep at h
  split at h <;> rename_i ho <;> try (cases h; done)
  all_goals
    have hop := (Opcode_ofBits_eq_some _ _).1 ho
    have ht := (Host.Outcome.next.inj h).symm
    simp only [hop, ht, keyHashword, keyHashword2, keyHashlittle, keyHashlittle2, keyHashbig, keyOneatatime]
    simp [Opcode.bits]

/-- What a FINISH step that goes on has done (R107). -/
theorem finishStep_cases {s t : State} (h : finishStep s = .next t) :
    (s.op = Opcode.mix.bits ∧ t = finishMix s) ∨ (s.op = Opcode.final.bits ∧ t = finishFinal s) ∨
      (s.op = Opcode.hashword.bits ∧ t = finishHashword s) ∨
      (s.op = Opcode.hashword2.bits ∧ t = finishHashword2 s) ∨
      (s.op = Opcode.hashlittle.bits ∧ t = finishHashlittle s) ∨
      (s.op = Opcode.hashlittle2.bits ∧ t = finishHashlittle2 s) ∨
      (s.op = Opcode.hashbig.bits ∧ t = finishHashbig s) ∨
      (s.op = Opcode.oneatatime.bits ∧ t = finishOneatatime s) := by
  unfold finishStep at h
  split at h <;> rename_i ho <;> try (cases h; done)
  all_goals
    have hop := (Opcode_ofBits_eq_some _ _).1 ho
    have ht := (Host.Outcome.next.inj h).symm
    simp [hop, ht, Opcode.bits]

/-! ### The block's step and the machine's -/

theorem blockStep_finish {s : State} (hp : s.phase = .run) (hi : s.idx = s.len) : blockStep s = finishStep s := by
  simp [blockStep, State.finishEnabled, hp, hi]

theorem blockStep_key {s : State} {k : Word} {ks : List Word} (hp : s.phase = .run) (hi : s.idx < s.len)
    (hk : s.keyChannel = k :: ks) : blockStep s = keyStep k (s.setKeyChannel ks) := by
  have hne : s.idx ≠ s.len := fun h => by simp [h] at hi
  simp [blockStep, State.finishEnabled, State.keyReady, hp, hi, hne, hk]

theorem blockStep_cmd {s : State} {d : Descriptor} {ds : List Descriptor} (hp : s.phase ≠ .run)
    (hd : s.cmdChannel = d :: ds) : blockStep s = cmdStep d (s.setCmdChannel ds) := by
  simp [blockStep, State.finishEnabled, State.keyReady, State.cmdReady, hp, hd]

/-- The cases of the block's step: FINISH, KEY, CMD, or waiting (R101, R103, R106, R242). -/
theorem blockStep_cases (s : State) :
    (s.phase = .run ∧ s.idx = s.len ∧ blockStep s = finishStep s) ∨
      (∃ k ks, s.phase = .run ∧ s.idx < s.len ∧ s.keyChannel = k :: ks ∧
        blockStep s = keyStep k (s.setKeyChannel ks)) ∨
      (∃ d ds, s.phase ≠ .run ∧ s.cmdChannel = d :: ds ∧ blockStep s = cmdStep d (s.setCmdChannel ds)) ∨
      (blockStep s = .next s ∧
        (s.phase = .run ∧ s.idx ≠ s.len ∧ (s.idx < s.len → s.keyChannel = []) ∨
          s.phase ≠ .run ∧ s.cmdChannel = [])) := by
  by_cases hp : s.phase = .run
  · by_cases hi : s.idx = s.len
    · exact .inl ⟨hp, hi, blockStep_finish hp hi⟩
    · by_cases hl : s.idx < s.len
      · cases hk : s.keyChannel with
        | nil =>
          refine .inr (.inr (.inr ⟨?_, .inl ⟨hp, hi, fun _ => rfl⟩⟩))
          simp [blockStep, State.finishEnabled, State.keyReady, hp, hi, hl, hk]
        | cons k ks => exact .inr (.inl ⟨k, ks, hp, hl, rfl, blockStep_key hp hl hk⟩)
      · refine .inr (.inr (.inr ⟨?_, .inl ⟨hp, hi, fun h => absurd h hl⟩⟩))
        simp [blockStep, State.finishEnabled, State.keyReady, State.cmdReady, hp, hi, hl]
  · cases hd : s.cmdChannel with
    | nil =>
      refine .inr (.inr (.inr ⟨?_, .inr ⟨hp, rfl⟩⟩))
      simp [blockStep, State.finishEnabled, State.keyReady, State.cmdReady, hp, hd]
    | cons d ds => exact .inr (.inr (.inl ⟨d, ds, hp, rfl, blockStep_cmd hp hd⟩))

/-- The cases of the machine's step: the block's own turn, or a move of the host (R261). -/
theorem step_cases (s : State) :
    (s.host = [] ∧ step s = blockStep s) ∨
      ∃ m ms, s.host = m :: ms ∧ step s = hostTurn m (s.setHost ms) := by
  unfold step sequencerStep
  cases h : s.host with
  | nil => exact .inl ⟨rfl, rfl⟩
  | cons m ms => exact .inr ⟨m, ms, rfl, rfl⟩

end Sys2Proof.Machine
end

