-- ==== Sys2Proof/Laws/KeySteps.lean ====
section
/-! SUPPORT. What a list of KEY steps does, said once: nothing for no payload, one KEY step and the rest otherwise, and one
list after another. -/

namespace Sys2Proof.Machine

theorem keySteps_nil (s : State) : keySteps [] s = .next s := rfl

theorem keySteps_cons {k : Word} {s t : State} (ks : List Word) (h : keyStep k s = .next t) :
    keySteps (k :: ks) s = keySteps ks t := by
  simp [keySteps, h]

/-- The steps of two lists in a row. -/
theorem keySteps_append {e : List Word} {s t : State} (f : List Word) (h : keySteps e s = .next t) :
    keySteps (e ++ f) s = keySteps f t := by
  induction e generalizing s with
  | nil => rw [Host.Outcome.next.inj h]; rfl
  | cons k ks ih =>
    unfold keySteps at h
    split at h
    · rename_i u hu
      rw [List.cons_append, keySteps_cons _ hu, ih h]
    all_goals cases h

end Sys2Proof.Machine
end

