-- ==== Sys2Proof/Laws/PerInstr.lean ====
section
/-! SUPPORT. Statements for all commands, one lemma per constructor of `Instr`. -/

namespace Sys2Proof.Laws

/-- Word D0 of a command's descriptor is its opcode, with RSV 0 (R70, R71). -/
def EncodesItsOpcode.Statement (i : Instr) : Prop := (encode i).d0 = i.opcode.d0

theorem EncodesItsOpcode.mix (a b c : Word) : EncodesItsOpcode.Statement (.mix a b c) :=
  Descriptor.d0_ofWords _ _ _ _

theorem EncodesItsOpcode.final (a b c : Word) : EncodesItsOpcode.Statement (.final a b c) :=
  Descriptor.d0_ofWords _ _ _ _

theorem EncodesItsOpcode.hashword (len seed1 : Word) : EncodesItsOpcode.Statement (.hashword len seed1) :=
  Descriptor.d0_ofWords _ _ _ _

theorem EncodesItsOpcode.hashword2 (len seed1 seed2 : Word) :
    EncodesItsOpcode.Statement (.hashword2 len seed1 seed2) :=
  Descriptor.d0_ofWords _ _ _ _

theorem EncodesItsOpcode.hashlittle (len seed1 : Word) : EncodesItsOpcode.Statement (.hashlittle len seed1) :=
  Descriptor.d0_ofWords _ _ _ _

theorem EncodesItsOpcode.hashlittle2 (len seed1 seed2 : Word) :
    EncodesItsOpcode.Statement (.hashlittle2 len seed1 seed2) :=
  Descriptor.d0_ofWords _ _ _ _

theorem EncodesItsOpcode.hashbig (len seed1 : Word) : EncodesItsOpcode.Statement (.hashbig len seed1) :=
  Descriptor.d0_ofWords _ _ _ _

theorem EncodesItsOpcode.oneatatime (len : Word) : EncodesItsOpcode.Statement (.oneatatime len) :=
  Descriptor.d0_ofWords _ _ _ _

end Sys2Proof.Laws
end

