-- ==== Sys2Proof/Tests/Slice0.lean ====
section
/-! SUPPORT. The smoke test of WellFormed, decoding of words written out from spec/30_encoding.md,
  single steps against the
vectors of spec/95_test_vectors.md and spec/96_test_vectors_more.md, and for every obligation with hypotheses a witness
that meets all of them. -/

namespace Sys2Proof.Tests

open Sys2Proof Sys2Proof.Machine

/-! ## WellFormed: each check refuses its ill-formed term -/

theorem test_wf_word_too_big : Call.wellFormed (.hashword [0x100000000] none) = false := by decide
theorem test_wf_word_fits : Call.wellFormed (.hashword [0xffffffff] none) = true := by decide
theorem test_wf_operand_too_big : Call.wellFormed (.mix 0 0 0x100000000) = false := by decide
theorem test_wf_byte_too_big : Call.wellFormed (.hashlittle (.list [256]) none) = false := by decide
theorem test_wf_byte_fits : Call.wellFormed (.hashlittle (.list [255, 0]) none) = true := by decide
theorem test_wf_not_ascii : Call.wellFormed (.oneatatime (.text ['a', 'é'])) = false := by decide
theorem test_wf_seed_too_big : Call.wellFormed (.hashbig (.text ['a']) (some 0x100000000)) = false := by decide
theorem test_wf_second_seed_too_big :
    Call.wellFormed (.hashlittle2 (.text ['a']) (some 0) (some 0x100000000)) = false := by decide
theorem test_wf_second_seed_alone : Call.wellFormed (.hashword2 [1] none (some 2)) = false := by decide
theorem test_wf_empty_words : Call.wellFormed (.hashword [] none) = true := by decide

/-- A list that LEN cannot count (R7). -/
theorem test_wf_too_long (xs : List Nat) (h : 2 ^ 32 ≤ xs.length) : Call.wellFormed (.hashword xs none) = false := by
  have hc : countable xs = false := decide_eq_false (by omega)
  simp [Call.wellFormed, hc]

/-! ## Decoding: spec/95_test_vectors.md section 8, the words written out by R70 to R72 (D3 D2 D1 D0) -/

theorem test_decode_mix : decode 0x00000003000000020000000100000000 = .ok (.mix 1 2 3) := by decide
theorem test_decode_final : decode 0x00000003000000020000000100000001 = .ok (.final 1 2 3) := by decide
theorem test_decode_hashword : decode 0x00000000000000000000000100000002 = .ok (.hashword 1 0) := by decide
theorem test_decode_hashword2 : decode 0x00000006000000050000000200000003 = .ok (.hashword2 2 5 6) := by decide
theorem test_decode_hashlittle : decode 0x00000002000000010000000300000004 = .ok (.hashlittle 3 1) := by decide
theorem test_decode_hashlittle2 : decode 0x00000001000000000000000000000005 = .ok (.hashlittle2 0 0 1) := by decide
theorem test_decode_hashbig : decode 0x00000000ffffffff8000000000000006 = .ok (.hashbig 0x80000000 0xffffffff) := by
  decide
theorem test_decode_oneatatime : decode 0x0000bbbb0000aaaa0000000000000007 = .ok (.oneatatime 0) := by decide
theorem test_decode_opc_08 : decode 0x00000000000000000000000000000008 = .error .unassignedOpcode := by decide
theorem test_decode_opc_ff : decode 0x000000030000000200000001000000ff = .error .unassignedOpcode := by decide
theorem test_decode_bit_8 : decode 0x00000003000000020000000100000100 = .error .reservedBits := by decide
theorem test_decode_bit_31 : decode 0x00000000000000000000000180000002 = .error .reservedBits := by decide
theorem test_encode_hashlittle : encode (.hashlittle 0x1e 1) = 0x00000000000000010000001e00000004 := by decide
theorem test_table_word : decodeTableWord 32 0x00000006 = some (.hashbig 0 0) := by decide
theorem test_table_word_long : decodeTableWord 128 0x00000006000000050000000200000003 = some (.hashword2 2 5 6) := by
  decide

/-! ## Small states -/

/-- A block that is done with a HASHWORD2 of three words, every register holding something of its own. -/
def demo : State :=
  { State.reset with
    a := 0x0f3b645b, b := 0x7b7f7bb8, c := 0x5a4f3b1e, h := 0x14, pk := 0x15, op := 0x03, len := 3, seed1 := 0x16
    seed2 := 0x17, idx := 3, phase := .done, nres := 2, res0 := 0x5a4f3b1e, res1 := 0x7b7f7bb8, res2 := 0x18 }

/-- A block that runs a command with these lanes, `pk`, `len`, `idx` and offered payloads. -/
def running (o : Opcode) (a b c pk len idx : Word) (ks : List Word) : State :=
  { demo with
    op := o.bits, a := a, b := b, c := c, pk := pk, len := len, idx := idx, seed2 := 0, phase := .run, nres := 0
    keyChannel := ks }

/-- A block that raised an error. -/
def failed (e : ErrorCode) : State := { demo with phase := .err, err := e, nres := 0 }

/-- What a step leads to, if it goes on. -/
def after : StepOutcome → Option State
  | .next t => some t
  | .fault _ => none
  | .refused _ => none

/-- The lanes, `idx`, `pk` and STATUS, as the tables of spec/95_test_vectors.md section 9 list them. -/
def row (s : State) : List Word := [s.idx, s.a, s.b, s.c, s.pk, s.statusWord]

/-! ## The data path: spec/95_test_vectors.md sections 2 and 7 -/

theorem test_rot_wraps : rot 0xdeadbeef 25 = 0xdfbd5b7d := by decide
theorem test_rot_edge : rot 0x00000001 31 = 0x80000000 := by decide
theorem test_oaat_step_byte_is_unsigned : oaatStep 0xffffffff 0xff = 0x0003f71d := by decide
theorem test_oaat_fin_shifts : oaatFin 0x80000000 = 0x80100000 := by decide

/-! ## Single steps of each command -/

/-- Section 3 of spec/95_test_vectors.md: (0x12345678, 0x9abcdef0, 0x0fedcba9). -/
theorem test_mix_cmd : (after (exec (.mix 0x12345678 0x9abcdef0 0x0fedcba9) demo)).map row =
    some [0, 0x12345678, 0x9abcdef0, 0x0fedcba9, 0x15, 0x00000001] := by decide

theorem test_mix_finish :
    (after (step (running .mix 0x12345678 0x9abcdef0 0x0fedcba9 0 0 0 []))).map (fun t => (t.results, t.statusWord)) =
      some ([0x96c79820, 0x402424d4, 0x80116c0f], 0x00000062) := by decide

theorem test_final_cmd : (after (exec (.final 0x12345678 0x9abcdef0 0x0fedcba9) demo)).map row =
    some [0, 0x12345678, 0x9abcdef0, 0x0fedcba9, 0x15, 0x00000001] := by decide

theorem test_final_finish :
    (after (step (running .final 0x12345678 0x9abcdef0 0x0fedcba9 0 0 0 []))).map
        (fun t => (t.results, t.statusWord)) =
      some ([0x3420e6cf, 0x17b3b57c, 0x4723dd31], 0x00000062) := by decide

/-- Section 4: LEN << 2 loses its top bits and the command is legal. -/
theorem test_hashword_cmd_wraps : (after (exec (.hashword 0x40000001 0) demo)).map row =
    some [0, 0xdeadbef3, 0xdeadbef3, 0xdeadbef3, 0x15, 0x00000001] := by decide

/-- Section 8: LEN = 0 raises InvalidInput. -/
theorem test_hashword_empty : (after (exec (.hashword 0 0) demo)).map State.statusWord = some 0x00000007 := by decide

/-- Section 4: the second seed wraps lane b only. -/
theorem test_hashword2_cmd : (after (exec (.hashword2 1 0 0xffffffff) demo)).map row =
    some [0, 0xdeadbef3, 0xdeadbef2, 0xdeadbef3, 0x15, 0x00000001] := by decide

/-- Section 5, lane trace: KEY 0x00000003 completes the triple. -/
theorem test_hashword2_key :
    (after (step (running .hashword2 0xdeadbf0b 0xdeadbf0c 0xdeadbf0a 0x15 5 2 [3]))).map row =
      some [3, 0x2b65134e, 0x3e111616, 0xddd4008c, 0x15, 0x00000001] := by decide

/-- Program P5's packing, third byte: `pk` is filled, no lane changes. -/
theorem test_hashlittle_key :
    (after (step (running .hashlittle 0xdeadbef3 0xdeadbef5 0xdeadbef3 0x6261 3 2 [0xffffff63]))).map row =
      some [3, 0xdeadbef3, 0xdeadbef5, 0xdeadbef3, 0x00636261, 0x00000001] := by decide

/-- Vector S2: `final3` is applied to an empty buffer. -/
theorem test_hashlittle_empty_finish :
    (after (step (running .hashlittle 0xdeadbeef 0xdeadbeef 0xdeadbeef 0 0 0 []))).map State.results =
      some [0x31b8a510] := by decide

/-- Program P5, step 2. -/
theorem test_hashlittle2_cmd : (after (exec (.hashlittle2 3 1 2) demo)).map row =
    some [0, 0xdeadbef3, 0xdeadbef5, 0xdeadbef3, 0, 0x00000001] := by decide

/-- Program P5, step 6: the partial word goes to lane a, c and b are reported. -/
theorem test_hashlittle2_finish :
    (after (step (running .hashlittle2 0xdeadbef3 0xdeadbef5 0xdeadbef3 0x00636261 3 3 []))).map
        (fun t => (row t, t.results)) =
      some ([3, 0x8ed5ede0, 0xca1a998a, 0x35727a1e, 0, 0x00000042], [0x35727a1e, 0xca1a998a]) := by decide

/-- Program P4, step 6: the fourth byte completes the word, most significant byte first. -/
theorem test_hashbig_key :
    (after (step (running .hashbig 0xdeadbef3 0xdeadbef3 0xdeadbef3 0x61626300 4 3 [0x64]))).map row =
      some [4, 0x40102257, 0xdeadbef3, 0xdeadbef3, 0, 0x00000001] := by decide

/-- Program P4, step 17: the partial word is left-justified and goes to lane b. -/
theorem test_hashbig_finish :
    (after (step (running .hashbig 0x40102258 0xdeadbef4 0xdeadbef4 0x65000000 5 5 []))).map row =
      some [5, 0x90d71472, 0x1a00586d, 0xf69eef3f, 0, 0x00000022] := by decide

/-- Program P5, step 9. -/
theorem test_oneatatime_key :
    (after (step { running .oneatatime 1 2 3 4 2 1 [0x62] with h := 0x00018270 })).map (fun t => (t.h, row t)) =
      some (0x0614f9f9, [2, 1, 2, 3, 4, 0x00000001]) := by decide

/-- Program P5, step 10. -/
theorem test_oneatatime_finish :
    (after (step { running .oneatatime 1 2 3 4 2 2 [] with h := 0x0614f9f9 })).map (fun t => (t.h, t.results)) =
      some (0x45e61e58, [0x45e61e58]) := by decide

/-- A descriptor with reserved bits and LEN = 0: IllegalCommand wins (section 8). -/
theorem test_illegal_step :
    (after (step { demo with cmdChannel := [0x102] })).map State.statusWord = some 0x00000013 := by decide

/-- The word of an opcode-table row runs as the first instruction after reset. -/
theorem test_fetch_word :
    (after (step (State.reset.withFetchWord 32 0x00000005))).map row =
      some [0, 0xdeadbeef, 0xdeadbeef, 0xdeadbeef, 0, 0x00000001] := by decide

/-! ## Whole-call functions: sections 5 to 7 -/

theorem test_hashword2_fn : hashword2Fn [1, 2, 3, 4, 5] 7 0 = some (0x5a4f3b1e, 0x7b7f7bb8) := by decide
theorem test_hashword2_fn_full_block : hashword2Fn [1, 2, 3] 1 2 = some (0x3044a9f6, 0x627168c2) := by decide
theorem test_hashbytes2_fn_le :
    hashbytes2Fn .little [0x80, 0x81, 0x82, 0x83, 0x84, 0x85, 0x86] 3 4 = some (0x00937645, 0xbc4e0075) := by decide
theorem test_hashbytes2_fn_be : (hashbytes2Fn .big [0x61, 0x62, 0x63] 1 0).map Prod.fst = some 0x86b2b36f := by decide
theorem test_oneatatime_fn : oneatatimeFn [0x61, 0x62, 0x63] = 0xed131f5b := by decide

/-! ## The assembler: R81, R82 -/

theorem test_assemble_string :
    assembleLine "HashLittle2(\"ab\", 1, 0x2)".toList = some (encode (.hashlittle2 2 1 2), [0x61, 0x62]) := by decide
theorem test_assemble_default_seed : assembleLine "hashword([1, 0xff])".toList =
    some (encode (.hashword 2 0), [1, 0xff]) := by decide
/-- Program P3: an empty list is assembled, with its seed. -/
theorem test_assemble_empty_list :
    assembleLine "hashword([], 5)".toList = some (encode (.hashword 0 5), []) := by decide
theorem test_assemble_refuses : assembleLine "hashword([4294967296], 0)".toList = none := by decide

/-! ## Witnesses: a state and operands that meet all hypotheses of an obligation together -/

/-- `demo` satisfies the invariant. -/
theorem witness_demo_inv : demo.Inv := by decide

theorem witness_DecodeComparesTheWholeOfD0 :
    decode 0x00000003000000020000000100000000 = .ok (.mix 1 2 3) ∧
      decode 0x00000003000000020000000100000100 ≠ .ok (.mix 1 2 3) := by decide

theorem witness_UnusedOperandWordsAreIgnored :
    (Opcode.hashbig = .hashword ∨ Opcode.hashbig = .hashlittle ∨ Opcode.hashbig = .hashbig) ∧
      GoesOn (cmdStep (.ofWords Opcode.hashbig.d0 1 0 0xffffffff) demo) ∧
      GoesOn (cmdStep (.ofWords Opcode.oneatatime.d0 1 2 3) demo) := ⟨by decide, ⟨_, rfl⟩, ⟨_, rfl⟩⟩

/-- A state with a descriptor offered, on its own turn and by a host move. -/
theorem witness_StepRunsTheDecodedInstruction :
    (∃ (s : State) (ds : List Descriptor), s.phase ≠ .run ∧ s.cmdChannel = 0x00000003000000020000000100000000 :: ds ∧
      decode 0x00000003000000020000000100000000 = .ok (.mix 1 2 3) ∧ s.BlockTurn []) ∧
    ∃ (s : State) (ds : List Descriptor), s.phase ≠ .run ∧ s.cmdChannel = 0x2 :: ds ∧ decode 0x2 = .ok (.hashword 0 0) ∧
      s.BlockTurn [.assertReset] :=
  ⟨⟨{ demo with cmdChannel := [0x00000003000000020000000100000000, 8] }, [8], by decide⟩,
    ⟨{ failed .invalidInput with cmdChannel := [2], host := [.proceed, .assertReset] }, [], by decide⟩⟩

/-- A state for each of the four clauses of the block's turn, the fourth in both its forms, and the host's moves, made while
FINISH is enabled, with nothing and with something offered. -/
theorem witness_StepTakesTheEnabledStep :
    (∃ s : State, s.BlockTurn [] ∧ s.phase = .run ∧ s.idx = s.len) ∧
      (∃ (s : State) (ks : List Word), s.BlockTurn [] ∧ s.phase = .run ∧ s.idx < s.len ∧ s.keyChannel = 7 :: ks) ∧
      (∃ (s : State) (ds : List Descriptor), s.BlockTurn [] ∧ s.phase ≠ .run ∧ s.cmdChannel = 8 :: ds) ∧
      (∃ s : State, s.BlockTurn [] ∧ s.phase = .run ∧ s.idx ≠ s.len ∧ s.keyChannel = []) ∧
      (∃ s : State, s.BlockTurn [] ∧ s.phase ≠ .run ∧ s.cmdChannel = []) ∧
      ∀ m : HostMove, m ≠ .proceed → ∀ ks : List Word, ∃ s : State, s.host = [m] ∧ s.keyChannel = ks ∧ s.finishEnabled :=
  ⟨⟨running .mix 1 2 3 4 0 0 [7], by decide⟩, ⟨running .hashword 1 2 3 4 1 0 [7, 8], [8], by decide⟩,
    ⟨{ demo with cmdChannel := [8] }, [], by decide⟩, ⟨running .hashword 1 2 3 4 1 0 [], by decide⟩,
    ⟨demo, by decide⟩, fun m _ ks => ⟨{ running .mix 1 2 3 4 0 0 ks with host := [m] }, rfl, rfl, rfl⟩⟩

/-- A block ready for a command in each of the three phases, and the boundary values of LEN. -/
theorem witness_ready : State.reset.phase ≠ .run ∧ demo.phase ≠ .run ∧ (failed .illegalCommand).phase ≠ .run ∧
    (1 : Word) ≠ 0 ∧ (0xffffffff : Word) ≠ 0 := by decide

theorem witness_TripleCommandsLatchTheirLanes : demo.phase ≠ .run := by decide

theorem witness_WordCommandsInitialiseTheirLanes : demo.phase ≠ .run ∧ (1 : Word) ≠ 0 := by decide

theorem witness_ByteCommandsInitialiseTheirLanes : demo.phase ≠ .run := by decide

theorem witness_OneatatimeClearsTheAccumulator : demo.phase ≠ .run := by decide

/-- The outer hypothesis, and the inner ones on the state reached, for each of the two commands. -/
theorem witness_EmptyWordSequenceRaisesInvalidInput :
    demo.phase ≠ .run ∧
      (∃ t u : State, exec (.hashword 0 5) demo = .next t ∧ t.BlockTurn [] ∧ step t = .next u) ∧
      ∃ t u : State, exec (.hashword2 0 5 6) { demo with keyChannel := [1] } = .next t ∧ t.BlockTurn [] ∧
        step t = .next u :=
  ⟨by decide, ⟨_, _, rfl, by decide, rfl⟩, ⟨_, _, rfl, by decide, rfl⟩⟩

/-- Each cause alone, both together, and the largest legal opcode. -/
theorem witness_IllegalDescriptorRaisesIllegalCommand :
    demo.phase ≠ .run ∧
      (Descriptor.d0 0x00000008).extractLsb' 8 24 = 0 ∧ 0x07 < ((Descriptor.d0 0x00000008).extractLsb' 0 8).toNat ∧
      (Descriptor.d0 0x00000100).extractLsb' 8 24 ≠ 0 ∧
      ¬ ((Descriptor.d0 0x00000007).extractLsb' 8 24 ≠ 0 ∨
          0x07 < ((Descriptor.d0 0x00000007).extractLsb' 0 8).toNat) := by decide

/-- A descriptor of each of the three clauses. -/
theorem witness_IllegalCommandIsReportedBeforeInvalidInput :
    demo.phase ≠ .run ∧ ((Descriptor.rsv 0x102) ≠ 0 ∧ (Descriptor.d1 0x102) = 0) ∧
      ((Descriptor.rsv 0x3) = 0 ∧ (Descriptor.opc 0x3) = 0x03 ∧ (Descriptor.d1 0x3) = 0) ∧
      ((Descriptor.rsv 0x7) = 0 ∧ (Descriptor.opc 0x7).toNat < 8) := by decide

theorem witness_DescriptorsOfferedWhileRunningStayOffered :
    ∃ s t : State, s.phase = .run ∧ s.cmdChannel ≠ [] ∧ s.BlockTurn [] ∧ step s = .next t :=
  ⟨{ running .hashword 1 2 3 4 5 0 [7] with cmdChannel := [8] }, _, rfl, by decide, by decide, rfl⟩

/-- Both commands; the first index of a triple, its last, and the largest index. -/
theorem witness_WordElementIsAddedToItsLane (p : Word × Word) (_ : p ∈ [(1, 0), (5, 0), (3, 2), (0xffffffff, 0xfffffffe)]) :
    (running .hashword 1 2 3 4 p.1 p.2 []).Running .hashword ∧
      (running .hashword2 1 2 3 4 p.1 p.2 []).Running .hashword2 ∧
      (running .hashword 1 2 3 4 p.1 p.2 []).idx = p.2 ∧ (running .hashword 1 2 3 4 p.1 p.2 []).len = p.1 ∧ p.2 < p.1 :=
  ⟨⟨rfl, rfl⟩, ⟨rfl, rfl⟩, rfl, rfl, by simp at *; rcases ‹_› with h | h | h | h <;> subst h <;> decide⟩

/-- Both commands; the first byte of a word, the last of a word, the last of a block. -/
theorem witness_LittleEndianByteIsPacked (p : Word × Word) (_ : p ∈ [(1, 0), (4, 3), (12, 11), (13, 12)]) :
    (running .hashlittle 1 2 3 4 p.1 p.2 []).Running .hashlittle ∧
      (running .hashlittle2 1 2 3 4 p.1 p.2 []).Running .hashlittle2 ∧
      (running .hashlittle 1 2 3 4 p.1 p.2 []).idx = p.2 ∧ (running .hashlittle 1 2 3 4 p.1 p.2 []).len = p.1 ∧
      p.2 < p.1 :=
  ⟨⟨rfl, rfl⟩, ⟨rfl, rfl⟩, rfl, rfl, by simp at *; rcases ‹_› with h | h | h | h <;> subst h <;> decide⟩

theorem witness_BigEndianByteIsPacked (p : Word × Word) (_ : p ∈ [(1, 0), (4, 3), (12, 11), (13, 12)]) :
    (running .hashbig 1 2 3 4 p.1 p.2 []).Running .hashbig ∧
      (running .hashbig 1 2 3 4 p.1 p.2 []).idx = p.2 ∧ (running .hashbig 1 2 3 4 p.1 p.2 []).len = p.1 ∧
      p.2 < p.1 :=
  ⟨⟨rfl, rfl⟩, rfl, rfl, by simp at *; rcases ‹_› with h | h | h | h <;> subst h <;> decide⟩

theorem witness_OneatatimeFoldsOneByte :
    (running .oneatatime 1 2 3 4 1 0 []).Running .oneatatime ∧
      (running .oneatatime 1 2 3 4 1 0 []).idx < (running .oneatatime 1 2 3 4 1 0 []).len := by decide

theorem witness_UpperPayloadBitsAreIgnoredByByteCommands :
    (running .hashbig 1 2 3 4 5 0 []).op = Opcode.hashbig.bits ∧
      (0x00000061 : Word).extractLsb' 0 8 = (0xffffff61 : Word).extractLsb' 0 8 := by decide

/-- A beat offered when the block is ready for it, and one offered when it is not. -/
theorem witness_KeyBeatsAreAcceptedOnlyWhenReady :
    (∃ s t : State, s.BlockTurn [] ∧ step s = .next t ∧ s.phase = .run ∧ s.idx < s.len ∧ s.keyChannel ≠ []) ∧
      ∃ s t : State, s.BlockTurn [] ∧ step s = .next t ∧ ¬ (s.phase = .run ∧ s.idx < s.len) ∧ s.keyChannel ≠ [] :=
  ⟨⟨running .hashword 1 2 3 4 5 0 [7], _, by decide, rfl, by decide, by decide, by decide⟩,
    ⟨{ demo with keyChannel := [7] }, _, by decide, rfl, by decide, by decide⟩⟩

/-- A state at its FINISH step for each of the four commands, with LEN = 0, 1 and 2^32 - 1. -/
theorem witness_FinishOfTripleAndWordCommands (o : Opcode) (n : Word) (_ : n ∈ ([0, 1, 0xffffffff] : List Word)) :
    (running o 1 2 3 4 n n []).phase = .run ∧ (running o 1 2 3 4 n n []).idx = (running o 1 2 3 4 n n []).len ∧
      (running o 1 2 3 4 n n []).op = o.bits := ⟨rfl, rfl, rfl⟩

/-- A state at its FINISH step for each of the four commands, with LEN = 0, with a full word and with a partial word. -/
theorem witness_FinishOfByteCommands (o : Opcode) (n : Word) (_ : n ∈ ([0, 4, 11] : List Word)) :
    (running o 1 2 3 4 n n []).phase = .run ∧ (running o 1 2 3 4 n n []).idx = (running o 1 2 3 4 n n []).len ∧
      (running o 1 2 3 4 n n []).op = o.bits := ⟨rfl, rfl, rfl⟩

theorem witness_MixCompletes : demo.phase ≠ .run := by decide

theorem witness_FinalCompletes : demo.phase ≠ .run := by decide

/-- One word, with a further payload offered that stays. -/
theorem witness_HashwordCompletes :
    ∃ (s : State) (e rest : List Word), s.phase ≠ .run ∧ s.Undisturbed ∧ (1 : Word) ≠ 0 ∧ s.keyChannel = e ++ rest ∧
      e.length = (1 : Word).toNat ∧ rest ≠ [] :=
  ⟨{ demo with keyChannel := [7, 8] }, [7], [8], by decide⟩

theorem witness_Hashword2Completes :
    ∃ (s : State) (e rest : List Word), s.phase ≠ .run ∧ s.Undisturbed ∧ (3 : Word) ≠ 0 ∧ s.keyChannel = e ++ rest ∧
      e.length = (3 : Word).toNat :=
  ⟨{ demo with keyChannel := [7, 8, 9] }, [7, 8, 9], [], by decide⟩

/-- LEN = 0 and LEN = 1. -/
theorem witness_HashlittleAndHashbigComplete :
    (∃ (s : State) (e rest : List Word), s.phase ≠ .run ∧ s.Undisturbed ∧ s.keyChannel = e ++ rest ∧
      e.length = (0 : Word).toNat) ∧
    ∃ (s : State) (e rest : List Word), s.phase ≠ .run ∧ s.Undisturbed ∧ s.keyChannel = e ++ rest ∧
      e.length = (1 : Word).toNat :=
  ⟨⟨{ demo with keyChannel := [7] }, [], [7], by decide⟩, ⟨{ demo with keyChannel := [7] }, [7], [], by decide⟩⟩

theorem witness_Hashlittle2Completes :
    ∃ (s : State) (e rest : List Word), s.phase ≠ .run ∧ s.Undisturbed ∧ s.keyChannel = e ++ rest ∧
      e.length = (2 : Word).toNat :=
  ⟨{ demo with keyChannel := [0x61, 0xffffff62] }, [0x61, 0xffffff62], [], by decide⟩

/-- LEN = 0 and LEN = 2. -/
theorem witness_OneatatimeCompletes :
    demo.phase ≠ .run ∧ ([] : List Word).length = (0 : Word).toNat ∧
      ([0x61, 0xffffff62] : List Word).length = (2 : Word).toNat := by decide

/-- A command without a key stream, and one with; the values are those of sections 3 and 6. -/
theorem witness_EveryFedCommandDeliversItsFunction :
    (∃ (s : State) (ds : List Descriptor), s.phase ≠ .run ∧ s.Undisturbed ∧
      s.cmdChannel = encode (.mix 1 2 3) :: ds ∧ s.keyChannel = [] ++ [7] ∧
      commandFn (.mix 1 2 3) [] = some [0x877d02a0, 0xcd175a8d, 0xe3fc5c22]) ∧
    ∃ (s : State) (ds : List Descriptor), s.phase ≠ .run ∧ s.Undisturbed ∧
      s.cmdChannel = encode (.hashlittle2 1 0 0) :: ds ∧
      s.keyChannel = [0xffffff61] ++ [] ∧
      commandFn (.hashlittle2 1 0 0) [0xffffff61] = some [0x58d68708, 0x582647ac] :=
  ⟨⟨{ demo with cmdChannel := [encode (.mix 1 2 3)], keyChannel := [7] }, [], by decide⟩,
    ⟨{ demo with cmdChannel := [encode (.hashlittle2 1 0 0), 8], keyChannel := [0xffffff61] }, [8], by decide⟩⟩

/-- The one payload is offered by a later move of the host. -/
theorem witness_ArrivalTimesDoNotMatter :
    ∃ s t : State, s.phase ≠ .run ∧ exec (.hashlittle 1 0) s = .next t ∧ (∀ m ∈ t.host, m.Feeds) ∧
      t.keyChannel ++ offeredKeys t.host = [0x61] ++ [] ∧ commandFn (.hashlittle 1 0) [0x61] = some [0x58d68708] :=
  ⟨{ demo with host := [.proceed, .offerKey 0x61] }, _, by decide, rfl, by decide, by decide, by decide⟩

/-- An input for the first clause; for the second each of the two pairs, run to its end. -/
theorem witness_SecondSeedZeroRunsInStepWithTheSibling :
    (([7] : List Word).length = (1 : Word).toNat ∧ (1 : Word) ≠ 0 ∧ ([] : List Word).length = (0 : Word).toNat) ∧
    (∃ t t' u u' : State, exec (.hashword 1 5) { demo with keyChannel := [7] } = .next t ∧
      exec (.hashword2 1 5 0) { demo with keyChannel := [7] } = .next t' ∧ t.Runs 2 u ∧ t'.Runs 2 u' ∧
      u.phase = .done) ∧
    ∃ t t' u u' : State, exec (.hashlittle 0 5) demo = .next t ∧ exec (.hashlittle2 0 5 0) demo = .next t' ∧
      t.Runs 1 u ∧
      t'.Runs 1 u' ∧ u.phase = .done :=
  ⟨by decide, ⟨_, _, _, _, rfl, rfl, rfl, rfl, rfl⟩, ⟨_, _, _, _, rfl, rfl, rfl, rfl, rfl⟩⟩

/-- Two of three beats are offered, and two steps are taken. -/
theorem witness_StarvedCommandStaysRunning :
    ∃ s t : State, s.phase = .run ∧ s.Undisturbed ∧ s.idx.toNat + s.keyChannel.length < s.len.toNat ∧ s.Runs 2 t :=
  ⟨running .hashbig 1 2 3 4 3 0 [7], _, by decide, by decide, by decide, rfl⟩

/-- A step of each of the four kinds. -/
theorem witness_PhaseChangesOnlyByItsSteps :
    GoesOn (step demo) ∧ GoesOn (step { demo with host := [.assertReset] }) ∧
      GoesOn (step (running .mix 1 2 3 0 0 0 [])) ∧ GoesOn (step { demo with cmdChannel := [0] }) :=
  ⟨⟨_, rfl⟩, ⟨_, rfl⟩, ⟨_, rfl⟩, ⟨_, rfl⟩⟩

/-- A reset, an accepted descriptor that does not raise and one that does, a KEY and a FINISH step, and a step that writes
another value into `err`. -/
theorem witness_ErrIsWrittenByResetAndCommandsOnly :
    (∃ s t : State, s.host.head? = some .assertReset ∧ step s = .next t) ∧
      (demo.phase ≠ .run ∧ GoesOn (cmdStep 0 demo) ∧ GoesOn (cmdStep 8 demo)) ∧
      GoesOn (keyStep 7 (running .hashword 1 2 3 4 5 0 [])) ∧ GoesOn (finishStep (running .mix 1 2 3 4 0 0 [])) ∧
      ∃ s t : State, step s = .next t ∧ t.err ≠ s.err :=
  ⟨⟨{ demo with host := [.assertReset] }, _, rfl, rfl⟩, ⟨by decide, ⟨_, rfl⟩, ⟨_, rfl⟩⟩, ⟨_, rfl⟩, ⟨_, rfl⟩,
    ⟨{ demo with cmdChannel := [8] }, _, rfl, by decide⟩⟩

/-- A KEY step; and a host move made while FINISH is enabled. -/
theorem witness_KeyStepsAreInvisibleInStatus :
    (∃ s t : State, step s = .next t ∧ s.phase = .run ∧ ¬ (s.idx = s.len ∧ ∃ ms, s.BlockTurn ms) ∧
      s.host.head? ≠ some .assertReset ∧ s.idx < s.len) ∧
    ∃ s t : State, step s = .next t ∧ s.phase = .run ∧ ¬ (s.idx = s.len ∧ ∃ ms, s.BlockTurn ms) ∧
      s.host.head? ≠ some .assertReset ∧ s.idx = s.len :=
  ⟨⟨running .hashword2 1 2 3 4 5 2 [7], _, rfl, rfl, fun h => absurd h.1 (by decide), by decide, by decide⟩,
    ⟨{ running .hashword2 1 2 3 4 5 5 [] with host := [.pause] }, _, rfl, rfl,
      by rintro ⟨-, ms, h | h⟩ <;> simp at h, by decide, rfl⟩⟩

/-- Nothing is offered; or the host makes another move than to wait. -/
theorem witness_ResultsLastUntilTheNextCommand :
    (∃ s t : State, step s = .next t ∧ s.phase = .done ∧ s.host.head? ≠ some .assertReset ∧ s.cmdChannel = []) ∧
      ∃ (s t : State) (m : HostMove) (ms : List HostMove), step s = .next t ∧ s.phase = .done ∧
        s.host.head? ≠ some .assertReset ∧ s.host = m :: ms ∧
        m ≠ .proceed :=
  ⟨⟨demo, _, rfl, rfl, by decide, rfl⟩,
    ⟨{ demo with host := [.offerCommand 8] }, _, .offerCommand 8, [], rfl, rfl, by decide, rfl, by decide⟩⟩

/-- Steps of commands of both kinds. -/
theorem witness_RegistersAreWrittenByTheirCommandsOnly :
    (∃ s t : State, step s = .next t ∧ s.host.head? ≠ some .assertReset ∧ t.op = Opcode.oneatatime.bits) ∧
      ∃ s t : State, step s = .next t ∧ s.host.head? ≠ some .assertReset ∧ t.op = Opcode.hashword.bits :=
  ⟨⟨running .oneatatime 1 2 3 4 5 0 [7], _, rfl, by decide, rfl⟩,
    ⟨running .hashword 1 2 3 4 5 0 [7], _, rfl, by decide, rfl⟩⟩

/-- The next two steps are a CMD and a FINISH step. -/
theorem witness_HiddenRegistersAreNeverSeen :
    ∃ s u : State, s.phase ≠ .run ∧ s.Runs 2 u ∧ u.phase = .done ∧ u.res0 = 0x31b8a510 :=
  ⟨{ demo with cmdChannel := [4] }, _, by decide, rfl, rfl, by decide⟩

/-- Steps from states with the invariant: of a running byte command, and a reset. -/
theorem witness_StepKeepsTheInvariant :
    (∃ s t : State, s.Inv ∧ step s = .next t ∧ s.phase = .run) ∧ ∃ s t : State, s.Inv ∧ step s = .next t ∧
      t.phase = .idle :=
  ⟨⟨running .hashbig 1 2 3 0x61620000 5 2 [7], _, by decide, rfl, rfl⟩,
    ⟨{ demo with host := [.assertReset] }, _, by decide, rfl, rfl⟩⟩

theorem witness_InvariantStatesNeverStop : (running .hashlittle 1 2 3 0x6261 5 2 [7]).Inv := by decide

/-- A state with the invariant for each of the seven values. -/
theorem witness_StatusHasSevenValues :
    [State.reset, running .hashword 1 2 3 4 5 2 [], { demo with op := 0x07, nres := 1 }, demo,
        { demo with op := 0x00, nres := 3 }, failed .invalidInput, failed .illegalCommand].map
      (fun s => (decide s.Inv, s.statusWord)) =
    [(true, 0x00000000), (true, 0x00000001), (true, 0x00000022), (true, 0x00000042), (true, 0x00000062),
      (true, 0x00000007), (true, 0x00000013)] := by decide

theorem witness_StatusRegisterLayout : State.reset.Inv ∧ (failed .illegalCommand).Inv ∧ demo.Inv :=
  ⟨by decide, by decide, by decide⟩

/-- A reset in the middle of a command, and steps into and out of the phases the second clause speaks of. -/
theorem witness_AssertedResetAbandonsTheCommand :
    ({ running .hashword 1 2 3 4 5 2 [7] with host := [.assertReset] } : State).host = [.assertReset] ∧
      (∃ t : State, step { running .hashword 1 2 3 4 5 2 [7] with host := [.assertReset] } = .next t ∧
        t.phase = .idle) ∧
      ∃ t : State, step (running .mix 1 2 3 0 0 0 []) = .next t ∧ t.phase ≠ .run :=
  ⟨rfl, ⟨_, rfl, rfl⟩, ⟨_, rfl, by decide⟩⟩

/-- The last word that has a value, the first that has none, and a block that is not done. -/
theorem witness_ResultWordsAreReadableOnlyWhenValid :
    (demo.phase = .done ∧ 1 < demo.nres.toNat) ∧ ¬ (demo.phase = .done ∧ 2 < demo.nres.toNat) ∧
      ¬ (State.reset.phase = .done ∧ 0 < State.reset.nres.toNat) := by decide

theorem witness_InstancesShareNothing :
    ∃ q : List State, platformStep 0 [{ demo with cmdChannel := [0] }, demo] = .next q ∧ 1 ≠ 0 := ⟨_, rfl, by decide⟩

theorem witness_RotationMovesEveryBit : (0 < 1 ∧ 1 < 32) ∧ (0 < 31 ∧ 31 < 32) := by decide

theorem witness_RotationsCompose : (0 < 31 ∧ 31 < 32) ∧ (0 < 2 ∧ 2 < 32) ∧ 0 < (31 + 2) % 32 ∧ (31 + 2) % 32 < 32 := by
  decide

/-- Both byte orders and all three commands; no byte, an incomplete word, a whole block, and all LEN of the bytes. -/
theorem witness_BytesMayBeAddedOneAtATime (o : Opcode) :
    (running o 1 2 3 0 12 0 []).Running o ∧ (running o 1 2 3 0 12 0 []).idx = 0 ∧ (running o 1 2 3 0 12 0 []).pk = 0 ∧
      ∀ e ∈ ([[], [1, 2, 3], List.replicate 12 7] : List (List Word)),
        e.length ≤ (running o 1 2 3 0 12 0 []).len.toNat :=
  ⟨⟨rfl, rfl⟩, rfl, rfl, show ∀ e ∈ ([[], [1, 2, 3], List.replicate 12 7] : List (List Word)), e.length ≤ (12 : Word).toNat by decide⟩

theorem witness_ByteAndWordHashesAgree :
    ∃ e : List Byte, e.length % 4 = 0 ∧ 4 ≤ e.length ∧ e.length < 2 ^ 32 := ⟨[0x61, 0x62, 0x63, 0x64], by decide⟩

/-- A call of each command, a string and a list, seeds given and left out. -/
theorem witness_AssembledCallsDecode :
    (assemble (.mix 1 2 0xffffffff)).isSome ∧ (assemble (.final 0 2 3)).isSome ∧
      assemble (.hashword [0xffffffff] (some 5)) = some (encode (.hashword 1 5), [0xffffffff]) ∧
      (assemble (.hashword2 [] none none)).isSome ∧
      assemble (.hashlittle (.text ['a']) none) = some (encode (.hashlittle 1 0), [0x61]) ∧
      (assemble (.hashlittle2 (.list [255]) (some 1) (some 0xffffffff))).isSome ∧
      (assemble (.hashbig (.list []) none)).isSome ∧ (assemble (.oneatatime (.list [0]))).isSome := by decide

theorem witness_Spells : Spells (.list [255]) [255] ∧ Spells (.text ['a', 'b']) [0x61, 0x62] :=
  ⟨.inl rfl, .inr ⟨_, rfl, rfl⟩⟩

/-- A seed at the end of its range, the second seed left out; and the number just too big, between two that fit. -/
theorem witness_AssemblerRefusesNumbersNotEmptyLists :
    (demo.phase ≠ .run ∧ (∀ n, some 0xffffffff = some n → n < 2 ^ 32) ∧ (∀ n, (none : Option Nat) = some n → n < 2 ^ 32) ∧
      (some 0xffffffff = none → (none : Option Nat) = none)) ∧
    (0x100000000 : Nat) ∈ [1, 0x100000000, 0xffffffff] ∧ 2 ^ 32 ≤ 0x100000000 :=
  ⟨⟨by decide, fun n h => by cases h; decide, fun _ h => (nomatch h), fun h => (nomatch h)⟩, by decide⟩

end Sys2Proof.Tests
end

/-! The left rotation `rot` (spec/00_scope.md R11): its formula, and where it moves each bit. -/
section
namespace Sys2Proof.Machine

theorem rot_eq_shifts (x : Word) (k : Nat) (bound : 0 < k ∧ k < 32) :
    rot x k bound = ((x <<< k) ||| (x >>> (32 - k))) := rfl

/-- A result bit comes from one of the two shifts: from `x >> (32-k)` below bit k, from `x << k` at bit k and above. -/
theorem getLsbD_rot (x : Word) (k : Nat) (bound : 0 < k ∧ k < 32) (j : Nat) (hj : j < 32) :
    (rot x k bound).getLsbD j = x.getLsbD (if j < k then 32 - k + j else j - k) := by
  rw [rot_eq_shifts, BitVec.getLsbD_or, BitVec.getLsbD_shiftLeft, BitVec.getLsbD_ushiftRight]
  by_cases low : j < k
  · simp [low]
  · have rightShiftIsZero : x.getLsbD (32 - k + j) = false := BitVec.getLsbD_of_ge _ _ (by omega)
    simp [low, hj, rightShiftIsZero]

/-- The bit law of R11: the bits that leave at the top come back at the bottom. -/
theorem getLsbD_rot_add_mod (x : Word) (k : Nat) (bound : 0 < k ∧ k < 32) (i : Nat) (hi : i < 32) :
    (rot x k bound).getLsbD ((i + k) % 32) = x.getLsbD i := by
  rw [getLsbD_rot x k bound _ (Nat.mod_lt _ (by decide))]
  congr 1
  by_cases wraps : 32 ≤ i + k
  · have target : (i + k) % 32 = i + k - 32 := by omega
    rw [target, if_pos (by omega)]
    omega
  · have target : (i + k) % 32 = i + k := Nat.mod_eq_of_lt (by omega)
    rw [target, if_neg (by omega)]
    omega

/-- Settles O48, from the formula of `rot` and its bit law. -/
theorem rotationMovesEveryBit : Obligations.RotationMovesEveryBit :=
  fun x k bound => ⟨rot_eq_shifts x k bound, getLsbD_rot_add_mod x k bound⟩

end Sys2Proof.Machine
end

/-! Whose turn a step is, and what the moves of the host leave alone (spec/70_reset_and_hazards.md R261): the block's own
step, asserted reset, or a move that writes the two channels only. -/
section
namespace Sys2Proof.Machine

/-- The step is the host's next move when there is one. -/
theorem step_of_move {s : State} {m : HostMove} {ms : List HostMove} (host : s.host = m :: ms) :
    step s = hostTurn m (s.setHost ms) := by
  unfold step sequencerStep
  rw [host]

/-- On the block's turn the step is the block's own, with the host's moves moved on. -/
theorem step_of_blockTurn {s : State} {ms : List HostMove} (turn : s.BlockTurn ms) :
    step s = blockStep (s.setHost ms) := by
  rcases turn with host | ⟨host, rfl⟩
  · exact step_of_move host
  · have same : s.setHost [] = s := by rw [← host]; rfl
    rw [same]
    unfold step sequencerStep
    rw [host]

/-- Asserted reset is a step in every phase (R250). -/
theorem step_of_assertReset {s : State} (reset : s.host.head? = some .assertReset) :
    ∃ ms, s.host = .assertReset :: ms ∧ step s = .next (s.setHost ms).applyReset := by
  obtain ⟨ms, host⟩ := List.head?_eq_some_iff.1 reset
  exact ⟨ms, host, step_of_move host⟩

/-- A move of the host that is neither the block's turn nor reset changes what is offered and nothing else. -/
theorem hostTurn_writes_channels {m : HostMove} {s t : State} (proceeds : m ≠ .proceed) (resets : m ≠ .assertReset)
    (h : hostTurn m s = .next t) : ∃ ds ks, t = (s.setCmdChannel ds).setKeyChannel ks := by
  cases m with
  | proceed => exact absurd rfl proceeds
  | assertReset => exact absurd rfl resets
  | pause => exact ⟨s.cmdChannel, s.keyChannel, (Host.Outcome.next.inj h).symm⟩
  | offerCommand d => exact ⟨s.cmdChannel ++ [d], s.keyChannel, (Host.Outcome.next.inj h).symm⟩
  | offerKey k => exact ⟨s.cmdChannel, s.keyChannel ++ [k], (Host.Outcome.next.inj h).symm⟩
  | withdrawCommand => exact ⟨s.cmdChannel.tail, s.keyChannel, (Host.Outcome.next.inj h).symm⟩
  | withdrawKey => exact ⟨s.cmdChannel, s.keyChannel.tail, (Host.Outcome.next.inj h).symm⟩

/-- A step that goes on was taken on the block's turn, was asserted reset, or wrote the channels and the host's further
moves only. -/
theorem step_turns {s t : State} (h : step s = .next t) :
    (∃ ms, s.BlockTurn ms ∧ blockStep (s.setHost ms) = .next t) ∨ s.host.head? = some .assertReset ∨
      ∃ ms ds ks, t = ((s.setHost ms).setCmdChannel ds).setKeyChannel ks := by
  cases host : s.host with
  | nil =>
    have turn : s.BlockTurn [] := .inr ⟨host, rfl⟩
    exact .inl ⟨[], turn, (step_of_blockTurn turn).symm.trans h⟩
  | cons m ms =>
    have move : hostTurn m (s.setHost ms) = .next t := (step_of_move host).symm.trans h
    by_cases proceeds : m = .proceed
    · subst proceeds
      exact .inl ⟨ms, .inl host, move⟩
    · by_cases resets : m = .assertReset
      · exact .inr (.inl (by rw [resets]; rfl))
      · exact .inr (.inr ⟨ms, hostTurn_writes_channels proceeds resets move⟩)

end Sys2Proof.Machine
end

/-! Who writes the error register `err` (spec/10_state.md R29): reset and the CMD step, never a KEY or a FINISH step. -/
section
namespace Sys2Proof.Machine

/-! ### The CMD step writes it with the phase -/

theorem State.acceptWords_err_of_run (s : State) (o : Opcode) (n x y : Word)
    (runs : (s.acceptWords o n x y).phase = .run) : (s.acceptWords o n x y).err = .none := by
  by_cases empty : n = 0
  · subst empty
    rw [State.acceptWords_zero] at runs
    cases runs
  · rw [State.acceptWords_pos s o n x y empty]

/-- A command that does not raise clears `err` (R102). -/
theorem acceptInstr_err_of_run (i : Instr) (s : State) (runs : (acceptInstr i s).phase = .run) :
    (acceptInstr i s).err = .none := by
  cases i with
  | hashword n x => exact s.acceptWords_err_of_run _ _ _ _ runs
  | hashword2 n x y => exact s.acceptWords_err_of_run _ _ _ _ runs
  | _ => rfl

/-- R29 for an accepted descriptor: no error and RUN, or phase ERR with one of the two errors this hardware raises. -/
theorem cmdStep_err {d : Descriptor} {s t : State} (ready : s.phase ≠ .run) (h : cmdStep d s = .next t) :
    (t.phase = .run ∧ t.err = .none) ∨ (t.phase = .err ∧ (t.err = .invalidInput ∨ t.err = .illegalCommand)) := by
  rcases cmdStep_ready d s ready with ⟨i, -, accepts⟩ | ⟨e, -, accepts⟩
  · obtain rfl := Host.Outcome.next.inj (accepts.symm.trans h)
    rcases acceptInstr_phase i s with runs | ⟨fails, code, -⟩
    · exact .inl ⟨runs, acceptInstr_err_of_run i s runs⟩
    · exact .inr ⟨fails, .inl code⟩
  · obtain rfl := Host.Outcome.next.inj (accepts.symm.trans h)
    exact .inr ⟨rfl, .inr rfl⟩

/-! ### The KEY and the FINISH step keep it -/

@[simp] theorem State.wordElement_err (s : State) (w : Word) : (s.wordElement w).err = s.err := by
  simp [State.wordElement_eq]

@[simp] theorem State.byteElement_err (s : State) (ord : ByteOrder) (x : Byte) :
    (s.byteElement ord x).err = s.err := by
  simp [State.byteElement_eq]

@[simp] theorem State.flushPartialWord_err (s : State) : s.flushPartialWord.err = s.err := by
  simp [State.flushPartialWord_eq]

@[simp] theorem State.finalBytes_err (s : State) : s.finalBytes.err = s.err := by
  simp [State.finalBytes_eq]

@[simp] theorem State.reportLanes_err (s : State) : s.reportLanes.err = s.err := rfl
@[simp] theorem State.reportC_err (s : State) : s.reportC.err = s.err := rfl
@[simp] theorem State.reportCB_err (s : State) : s.reportCB.err = s.err := rfl

theorem keyStep_err {k : Word} {s t : State} (h : keyStep k s = .next t) : t.err = s.err := by
  rcases keyStep_cases h with ⟨-, rfl⟩ | ⟨-, rfl⟩ | ⟨-, rfl⟩ | ⟨-, rfl⟩
  · exact s.wordElement_err k
  · exact s.byteElement_err .little _
  · exact s.byteElement_err .big _
  · exact s.oaatElement_err _

theorem finishStep_err {s t : State} (h : finishStep s = .next t) : t.err = s.err := by
  rcases finishStep_cases h with ⟨-, rfl⟩ | ⟨-, rfl⟩ | ⟨-, rfl⟩ | ⟨-, rfl⟩ | ⟨-, rfl⟩ | ⟨-, rfl⟩ | ⟨-, rfl⟩ | ⟨-, rfl⟩
  · simp [finishMix]
  · simp [finishFinal]
  · simp [finishHashword]
  · simp [finishHashword2]
  · simp [finishHashlittle]
  · simp [finishHashlittle2]
  · simp [finishHashbig]
  · simp [finishOneatatime]

/-! ### The block's step and the machine's -/

/-- The block writes `err` only when it accepts a descriptor. -/
theorem blockStep_err {s t : State} (h : blockStep s = .next t) (writes : t.err ≠ s.err) :
    s.phase ≠ .run ∧ s.cmdChannel ≠ [] := by
  rcases blockStep_cases s with ⟨-, -, finish⟩ | ⟨k, ks, -, -, -, key⟩ | ⟨d, ds, ready, offered, -⟩ | ⟨waits, -⟩
  · exact absurd (finishStep_err (finish.symm.trans h)) writes
  · have kept := keyStep_err (key.symm.trans h)
    exact absurd kept writes
  · exact ⟨ready, by simp [offered]⟩
  · obtain rfl := Host.Outcome.next.inj (waits.symm.trans h)
    exact absurd rfl writes

/-- The machine writes `err` only by asserted reset, or on the block's turn when it accepts a descriptor. -/
theorem step_err {s t : State} (h : step s = .next t) (writes : t.err ≠ s.err) :
    s.host.head? = some .assertReset ∨ (s.phase ≠ .run ∧ s.cmdChannel ≠ [] ∧ ∃ ms, s.BlockTurn ms) := by
  rcases step_turns h with ⟨ms, turn, block⟩ | reset | ⟨ms, ds, ks, rfl⟩
  · obtain ⟨ready, offered⟩ := blockStep_err block writes
    exact .inr ⟨ready, offered, ms, turn⟩
  · exact .inl reset
  · exact absurd rfl writes

theorem step_err_of_assertReset {s t : State} (reset : s.host.head? = some .assertReset) (h : step s = .next t) :
    t.err = .none := by
  obtain ⟨ms, -, resets⟩ := step_of_assertReset reset
  obtain rfl := Host.Outcome.next.inj (resets.symm.trans h)
  rfl

/-- Settles O35, one lemma per kind of step. -/
theorem errIsWrittenByResetAndCommandsOnly : Obligations.ErrIsWrittenByResetAndCommandsOnly :=
  ⟨fun _ _ => step_err_of_assertReset, fun _ _ _ => cmdStep_err, fun _ _ _ => keyStep_err,
    fun _ _ => finishStep_err, fun _ _ => step_err⟩

end Sys2Proof.Machine
end

/-! The STATUS register (spec/10_state.md R28): its fields, their codes, and the level outputs of R26. -/
section
namespace Sys2Proof.Machine

/-! ### The fields are where R28 puts them -/

theorem readStatus_eq (s : State) :
    readStatus s = (0 : BitVec 25) ++ s.nres ++ s.err.code ++ s.phase.code := rfl

theorem readStatus_phase (s : State) : (readStatus s).extractLsb' 0 2 = s.phase.code := by
  rw [readStatus_eq, BitVec.extractLsb'_append_eq_right]

theorem readStatus_err (s : State) : (readStatus s).extractLsb' 2 3 = s.err.code := by
  rw [readStatus_eq, BitVec.extractLsb'_append_eq_of_le (by decide), BitVec.extractLsb'_append_eq_right]

theorem readStatus_nres (s : State) : (readStatus s).extractLsb' 5 2 = s.nres := by
  rw [readStatus_eq, BitVec.extractLsb'_append_eq_of_le (by decide), BitVec.extractLsb'_append_eq_of_le (by decide),
    BitVec.extractLsb'_append_eq_right]

theorem readStatus_zero_above (s : State) : (readStatus s).extractLsb' 7 25 = 0 := by
  rw [readStatus_eq, BitVec.extractLsb'_append_eq_of_le (by decide), BitVec.extractLsb'_append_eq_of_le (by decide),
    BitVec.extractLsb'_append_eq_left]

/-! ### What the codes say -/

theorem Phase.code_eq_done_iff (p : Phase) : p.code = 2 ↔ p = .done := by
  cases p <;> decide

theorem Phase.code_eq_err_iff (p : Phase) : p.code = 3 ↔ p = .err := by
  cases p <;> decide

theorem ErrorCode.code_ne_zero_iff (e : ErrorCode) : e.code ≠ 0 ↔ e ≠ .none := by
  cases e <;> decide

/-- The invariants of R28, read off the word: they are the model's `StatusInv` in the fields' codes. -/
theorem readStatus_invariants {s : State} (inv : s.StatusInv) :
    ((readStatus s).extractLsb' 2 3 ≠ 0 ↔ (readStatus s).extractLsb' 0 2 = 3) ∧
      ((readStatus s).extractLsb' 5 2 ≠ 0 → (readStatus s).extractLsb' 0 2 = 2) := by
  obtain ⟨errInv, nresInv, -⟩ := inv
  rw [readStatus_phase, readStatus_err, readStatus_nres, ErrorCode.code_ne_zero_iff, Phase.code_eq_err_iff,
    Phase.code_eq_done_iff]
  exact ⟨errInv, nresInv⟩

/-! ### The level outputs -/

theorem State.busy_iff (s : State) : s.busy = true ↔ s.phase = .run := decide_eq_true_iff
theorem State.doneFlag_iff (s : State) : s.doneFlag = true ↔ s.phase = .done := decide_eq_true_iff
theorem State.errorFlag_iff (s : State) : s.errorFlag = true ↔ s.phase = .err := decide_eq_true_iff

/-- Each phase is told by one of the four, and no two by the same (R26). -/
theorem levelOutputs_count (s : State) :
    [decide (s.phase = .idle), s.busy, s.doneFlag, s.errorFlag].count true = 1 := by
  unfold State.busy State.doneFlag State.errorFlag
  cases s.phase <;> rfl

/-- Settles O44, field by field, then the codes, the invariants and the level outputs. -/
theorem statusRegisterLayout : Obligations.StatusRegisterLayout :=
  ⟨fun s => ⟨readStatus_phase s, readStatus_err s, readStatus_nres s, readStatus_zero_above s⟩,
    ⟨rfl, rfl, rfl, rfl⟩, ⟨rfl, rfl, rfl, rfl, rfl⟩, rfl,
    fun _ ⟨statusInv, _⟩ => readStatus_invariants statusInv,
    fun s => ⟨s.busy_iff, s.doneFlag_iff, s.errorFlag_iff⟩,
    levelOutputs_count, ⟨rfl, rfl, rfl⟩⟩

end Sys2Proof.Machine
end

/-! Several instances side by side (spec/20_memory.md R62): a step of the platform is a step of one of them. -/
section
namespace Sys2Proof.Machine

/-- All that a step of the platform can do: nothing where no instance stands at `k`, else one step of that instance,
whose state it writes back in its place. -/
theorem platformStep_cases {k : Nat} {p q : List State} (h : platformStep k p = .next q) :
    (p[k]? = none ∧ q = p) ∨ ∃ s t, p[k]? = some s ∧ step s = .next t ∧ q = p.set k t := by
  unfold platformStep at h
  split at h
  next absent => exact .inl ⟨absent, (Host.Outcome.next.inj h).symm⟩
  next s present =>
    split at h
    next t stepped => exact .inr ⟨s, t, present, stepped, (Host.Outcome.next.inj h).symm⟩
    next => cases h
    next => cases h

/-- Settles O47: the only place a step of the platform writes is `k`. -/
theorem instancesShareNothing : Obligations.InstancesShareNothing := by
  intro k j p q h other
  rcases platformStep_cases h with ⟨-, rfl⟩ | ⟨s, t, -, -, rfl⟩
  · rfl
  · exact List.getElem?_set_ne other.symm

end Sys2Proof.Machine
end

/-! Operand words (spec/30_encoding.md R72, R73): a descriptor that opcode and operand words make is decoded to the command
of the opcode, which has no place for the words that its format does not use. -/
section
namespace Sys2Proof.Machine

/-- Selection by D0 passes both checks of R79, and D1, D2, D3 go to the operands unchanged. -/
theorem decode_ofWords (o : Opcode) (x y z : Word) :
    decode (.ofWords o.d0 x y z) = .ok (o.withOperands x y z) := by
  rw [decode_ok_iff, Descriptor.rsv, Descriptor.opc, Descriptor.d0_ofWords, Descriptor.d1_ofWords,
    Descriptor.d2_ofWords, Descriptor.d3_ofWords, Opcode.rsv_d0, Opcode.opc_d0]
  exact ⟨rfl, o, Opcode_ofBits_bits o, rfl⟩

theorem cmdStep_ofWords (o : Opcode) (x y z : Word) (s : State) :
    cmdStep (.ofWords o.d0 x y z) s = exec (o.withOperands x y z) s := by
  unfold cmdStep
  rw [decode_ofWords]

/-- Format S1 has no operand in D3. -/
theorem withOperands_ignores_d3 {o : Opcode} (formatS1 : o = .hashword ∨ o = .hashlittle ∨ o = .hashbig)
    (len seed1 x y : Word) : o.withOperands len seed1 x = o.withOperands len seed1 y := by
  rcases formatS1 with rfl | rfl | rfl <;> rfl

/-- Format L has no operand in D2 and D3. -/
theorem withOperands_oneatatime (len x y : Word) : Opcode.oneatatime.withOperands len x y = .oneatatime len := rfl

/-- Settles O4: the CMD step is that of the decoded command, where the unused words do not occur; and `encode` makes a
descriptor from words that are 0 there. -/
theorem unusedOperandWordsAreIgnored : Obligations.UnusedOperandWordsAreIgnored := by
  refine ⟨fun o formatS1 len seed1 x y s => ?_, fun len x2 x3 y2 y3 s => ?_, fun len seed1 => ⟨?_, ?_, ?_⟩,
    fun len => ⟨?_, ?_⟩⟩
  · rw [cmdStep_ofWords, cmdStep_ofWords, withOperands_ignores_d3 formatS1 len seed1 x y]
  · rw [cmdStep_ofWords, cmdStep_ofWords, withOperands_oneatatime, withOperands_oneatatime]
  · exact Descriptor.d3_ofWords _ _ _ _
  · exact Descriptor.d3_ofWords _ _ _ _
  · exact Descriptor.d3_ofWords _ _ _ _
  · exact Descriptor.d2_ofWords _ _ _ _
  · exact Descriptor.d3_ofWords _ _ _ _

end Sys2Proof.Machine
end

/-! What the assembler refuses and what it leaves to the hardware (spec/30_encoding.md R81 to R83). -/
section
namespace Sys2Proof.Machine

/-! ### Numbers and seeds that can be written -/

theorem wordNumber_iff (n : Nat) : wordNumber n = true ↔ n < 2 ^ 32 := decide_eq_true_iff

theorem seedNumber_iff (seed : Option Nat) : seedNumber seed = true ↔ ∀ n, seed = some n → n < 2 ^ 32 := by
  cases seed with
  | none => simp [seedNumber]
  | some n => simp [seedNumber, wordNumber_iff]

theorem seedsInOrder_iff (s1 s2 : Option Nat) : seedsInOrder s1 s2 = true ↔ (s1 = none → s2 = none) := by
  cases s1 <;> cases s2 <;> simp [seedsInOrder]

/-- A seed that can be written is its word's value, 0 when it is left out (R82). -/
theorem seedWord_toNat {seed : Option Nat} (fits : ∀ n, seed = some n → n < 2 ^ 32) :
    (seedWord seed).toNat = seed.getD 0 := by
  cases seed with
  | none => rfl
  | some n => exact Nat.mod_eq_of_lt (fits n rfl)

/-! ### What the assembler answers -/

theorem assemble_of_wellFormed {call : Call} (wf : call.wellFormed = true) :
    assemble call = some (encode (callInstr call), callBeats call) := if_pos wf

theorem assemble_of_not_wellFormed {call : Call} (illFormed : call.wellFormed = false) : assemble call = none :=
  if_neg (by simp [illFormed])

theorem all_wordNumber_of_too_big {ws : List Nat} {w : Nat} (listed : w ∈ ws) (big : 2 ^ 32 ≤ w) :
    ws.all wordNumber = false :=
  List.all_eq_false.2 ⟨w, listed, fun fits => Nat.not_lt.2 big ((wordNumber_iff w).1 fits)⟩

/-! ### The two word commands on an empty list -/

section EmptyWordList
variable {call : Call} {s1 s2 : Option Nat} (empty : call = .hashword [] s1 ∨ call = .hashword2 [] s1 s2)
include empty

theorem wellFormed_emptyWordList (fits1 : seedNumber s1 = true) (fits2 : seedNumber s2 = true)
    (order : seedsInOrder s1 s2 = true) : call.wellFormed = true := by
  rcases empty with rfl | rfl
  · simp [Call.wellFormed, countable, fits1]
  · simp [Call.wellFormed, countable, fits1, fits2, order]

theorem callBeats_emptyWordList : callBeats call = [] := by
  rcases empty with rfl | rfl <;> rfl

/-- LEN is 0 and the first seed stands in D2, in either format (R81). -/
theorem encode_emptyWordList : ∃ (o : Opcode) (y : Word), (o = .hashword ∨ o = .hashword2) ∧
    encode (callInstr call) = .ofWords o.d0 0 (seedWord s1) y := by
  rcases empty with rfl | rfl
  · exact ⟨.hashword, 0, .inl rfl, rfl⟩
  · exact ⟨.hashword2, seedWord s2, .inr rfl, rfl⟩

end EmptyWordList

/-- LEN = 0 raises InvalidInput in both word commands (R160, R222). -/
theorem acceptInstr_emptyWords {o : Opcode} (words : o = .hashword ∨ o = .hashword2) (x y : Word) (s : State) :
    (acceptInstr (o.withOperands 0 x y) s).phase = .err ∧
      (acceptInstr (o.withOperands 0 x y) s).err = .invalidInput := by
  rcases words with rfl | rfl
  · exact ⟨rfl, rfl⟩
  · exact ⟨rfl, rfl⟩

/-- The first half of R83: the assembler passes the empty list on, and the hardware refuses it. -/
theorem emptyWordList_assembled_then_refused {s : State} {s1 s2 : Option Nat} {call : Call} (ready : s.phase ≠ .run)
    (fits1 : ∀ n, s1 = some n → n < 2 ^ 32) (fits2 : ∀ n, s2 = some n → n < 2 ^ 32) (order : s1 = none → s2 = none)
    (empty : call = .hashword [] s1 ∨ call = .hashword2 [] s1 s2) :
    ∃ d t, assemble call = some (d, []) ∧ d.d1 = 0 ∧ d.d2.toNat = s1.getD 0 ∧
      cmdStep d s = .next t ∧ t.phase = .err ∧ t.err = .invalidInput := by
  have wf : call.wellFormed = true := wellFormed_emptyWordList empty ((seedNumber_iff s1).2 fits1)
    ((seedNumber_iff s2).2 fits2) ((seedsInOrder_iff s1 s2).2 order)
  obtain ⟨o, y, words, encoded⟩ := encode_emptyWordList empty
  refine ⟨.ofWords o.d0 0 (seedWord s1) y, acceptInstr (o.withOperands 0 (seedWord s1) y) s, ?_,
    Descriptor.d1_ofWords _ _ _ _, ?_, ?_, acceptInstr_emptyWords words _ _ _⟩
  · rw [assemble_of_wellFormed wf, encoded, callBeats_emptyWordList empty]
  · rw [Descriptor.d2_ofWords, seedWord_toNat fits1]
  · rw [cmdStep_ofWords, exec_ready _ s ready]

/-- The second half of R83: one number that is no word makes the call ill formed. -/
theorem assemble_tooBigWord {ws : List Nat} {w : Nat} (s1 s2 : Option Nat) (listed : w ∈ ws) (big : 2 ^ 32 ≤ w) :
    assemble (.hashword ws s1) = none ∧ assemble (.hashword2 ws s1 s2) = none := by
  have refused : ws.all wordNumber = false := all_wordNumber_of_too_big listed big
  exact ⟨assemble_of_not_wellFormed (by simp [Call.wellFormed, refused]),
    assemble_of_not_wellFormed (by simp [Call.wellFormed, refused])⟩

/-- Settles O57, half by half. -/
theorem assemblerRefusesNumbersNotEmptyLists : Obligations.AssemblerRefusesNumbersNotEmptyLists :=
  ⟨fun _ _ _ ready fits1 fits2 order _ empty => emptyWordList_assembled_then_refused ready fits1 fits2 order empty,
    fun _ s1 s2 _ listed big => assemble_tooBigWord s1 s2 listed big⟩

end Sys2Proof.Machine
end

/-! The mixer's own commands (spec/41_mixer.md R132, R134): a format T command is at its FINISH step as soon as it is
accepted, and that step reports the transform of its operands. -/
section
namespace Sys2Proof.Machine

/-! ### The CMD step of a format T command -/

@[simp] theorem State.acceptTriple_lanes (s : State) (o : Opcode) (x y z : Word) :
    (s.acceptTriple o x y z).lanes = { a := x, b := y, c := z } := rfl

/-- `len` is 0, and no index is below it (R103). -/
@[simp] theorem State.acceptTriple_keyReady (s : State) (o : Opcode) (x y z : Word) :
    (s.acceptTriple o x y z).keyReady = false := by
  rw [Bool.eq_false_iff, ne_eq, State.keyReady_iff]
  rintro ⟨-, idxBelowLen⟩
  exact BitVec.not_lt_zero idxBelowLen

/-- `idx` and `len` are both 0 (R106). -/
@[simp] theorem State.acceptTriple_finishEnabled (s : State) (o : Opcode) (x y z : Word) :
    (s.acceptTriple o x y z).finishEnabled = true :=
  (State.finishEnabled_iff _).2 ⟨rfl, rfl⟩

/-! ### The FINISH step of MIX and FINAL -/

theorem finishStep_of_mix {s : State} (latched : s.op = Opcode.mix.bits) : finishStep s = .next (finishMix s) := by
  unfold finishStep
  rw [latched, Opcode_ofBits_bits]

theorem finishStep_of_final {s : State} (latched : s.op = Opcode.final.bits) :
    finishStep s = .next (finishFinal s) := by
  unfold finishStep
  rw [latched, Opcode_ofBits_bits]

/-- A state `s` that accepted a format T command of opcode `o` and has reported the lanes `r`. -/
def State.tripleDone (s : State) (o : Opcode) (r : Lanes) : State :=
  { s with
    op := o.bits, len := 0, idx := 0, a := r.a, b := r.b, c := r.c
    res0 := r.a, res1 := r.b, res2 := r.c, nres := 3, err := .none, phase := .done }

/-- Reporting lanes that were written into an accepted format T command. -/
theorem State.reportLanes_acceptTriple (s : State) (o : Opcode) (x y z : Word) (r : Lanes) :
    ((s.acceptTriple o x y z).setLanes r).reportLanes = s.tripleDone o r := rfl

theorem finishStep_acceptTriple_mix (s : State) (x y z : Word) :
    finishStep (s.acceptTriple .mix x y z) = .next (s.tripleDone .mix (mix3 { a := x, b := y, c := z })) := by
  rw [finishStep_of_mix rfl, finishMix, State.mixLanes, State.acceptTriple_lanes, State.reportLanes_acceptTriple]

theorem finishStep_acceptTriple_final (s : State) (x y z : Word) :
    finishStep (s.acceptTriple .final x y z) = .next (s.tripleDone .final (final3 { a := x, b := y, c := z })) := by
  rw [finishStep_of_final rfl, finishFinal, State.finalLanes, State.acceptTriple_lanes,
    State.reportLanes_acceptTriple]

/-! ### The whole commands -/

/-- Settles O23: the CMD step enables FINISH, which reports `mix3`; the rule's values are computed. -/
theorem mixCompletes : Obligations.MixCompletes := by
  refine ⟨fun x y z s ready => ?_, by decide, by decide, by decide⟩
  exact ⟨s.acceptTriple .mix x y z, s.tripleDone .mix (mix3 { a := x, b := y, c := z }), _, rfl, rfl,
    exec_ready (.mix x y z) s ready, s.acceptTriple_lanes .mix x y z, s.acceptTriple_keyReady .mix x y z,
    s.acceptTriple_finishEnabled .mix x y z, finishStep_acceptTriple_mix s x y z, rfl⟩

/-- Settles O24: the CMD step enables FINISH, which reports `final3`; the rule's values are computed. -/
theorem finalCompletes : Obligations.FinalCompletes := by
  refine ⟨fun x y z s ready => ?_, by decide, by decide, by decide⟩
  exact ⟨s.acceptTriple .final x y z, s.tripleDone .final (final3 { a := x, b := y, c := z }), _, rfl, rfl,
    exec_ready (.final x y z) s ready, s.acceptTriple_lanes .final x y z, s.acceptTriple_keyReady .final x y z,
    s.acceptTriple_finishEnabled .final x y z, finishStep_acceptTriple_final s x y z, rfl⟩

end Sys2Proof.Machine
end

/-! The word commands HASHWORD and HASHWORD2 (spec/42_hashword.md): what LEN = 0 leaves behind (R160), and the KEY step
(R153). -/
section
namespace Sys2Proof.Machine

/-! ### A block that does not run takes no key beat -/

theorem State.keyReady_of_not_run {s : State} (ready : s.phase ≠ .run) : s.keyReady = false := by
  rw [Bool.eq_false_iff, ne_eq, State.keyReady_iff]
  exact fun ⟨runs, _⟩ => ready runs

/-- The CMD step of a word command leaves what is offered as keys, whether it raises or not. -/
@[simp] theorem State.acceptWords_keyChannel (s : State) (o : Opcode) (n x y : Word) :
    (s.acceptWords o n x y).keyChannel = s.keyChannel := by
  by_cases empty : n = 0
  · rw [empty, State.acceptWords_zero]
  · rw [State.acceptWords_pos s o n x y empty]

@[simp] theorem acceptInstr_keyChannel (i : Instr) (s : State) : (acceptInstr i s).keyChannel = s.keyChannel := by
  cases i with
  | hashword n x => exact s.acceptWords_keyChannel _ n x 0
  | hashword2 n x y => exact s.acceptWords_keyChannel _ n x y
  | _ => rfl

theorem cmdStep_keyChannel {d : Descriptor} {s t : State} (ready : s.phase ≠ .run) (h : cmdStep d s = .next t) :
    t.keyChannel = s.keyChannel := by
  rcases cmdStep_ready d s ready with ⟨i, -, accepts⟩ | ⟨e, -, accepts⟩
  · obtain rfl := Host.Outcome.next.inj (accepts.symm.trans h)
    exact acceptInstr_keyChannel i s
  · obtain rfl := Host.Outcome.next.inj (accepts.symm.trans h)
    rfl

/-- Outside of RUN the block's step is a CMD step or waits (R101, R242). -/
theorem blockStep_keyChannel_of_not_run {s t : State} (ready : s.phase ≠ .run) (h : blockStep s = .next t) :
    t.keyChannel = s.keyChannel := by
  rcases blockStep_cases s with ⟨runs, -⟩ | ⟨k, ks, runs, -⟩ | ⟨d, ds, -, -, cmd⟩ | ⟨waits, -⟩
  · exact absurd runs ready
  · exact absurd runs ready
  · exact cmdStep_keyChannel (s := s.setCmdChannel ds) ready (cmd.symm.trans h)
  · obtain rfl := Host.Outcome.next.inj (waits.symm.trans h)
    rfl

theorem step_keyChannel_of_not_run {s t : State} {ms : List HostMove} (ready : s.phase ≠ .run)
    (turn : s.BlockTurn ms) (h : step s = .next t) : t.keyChannel = s.keyChannel :=
  blockStep_keyChannel_of_not_run (s := s.setHost ms) ready ((step_of_blockTurn turn).symm.trans h)

/-! ### LEN = 0 -/

theorem readResult_of_not_done {s : State} (k : Nat) (notDone : s.phase ≠ .done) :
    readResult k s = .error .resultHasNoValue :=
  if_neg fun ⟨done, _⟩ => notDone done

theorem State.acceptWords_zero_phase (s : State) (o : Opcode) (x y : Word) :
    (s.acceptWords o 0 x y).phase = .err := rfl

theorem State.acceptWords_zero_not_run (s : State) (o : Opcode) (x y : Word) :
    (s.acceptWords o 0 x y).phase ≠ .run := by
  rw [State.acceptWords_zero_phase]
  decide

/-- Raising InvalidInput does not touch the host's moves, so the turn after it is the turn before it. -/
theorem State.acceptWords_zero_blockTurn (s : State) (o : Opcode) (x y : Word) (ms : List HostMove) :
    (s.acceptWords o 0 x y).BlockTurn ms ↔ s.BlockTurn ms := Iff.rfl

/-- No digest of an empty input can be read (R160). -/
theorem readResult_acceptWords_zero (k : Nat) (s : State) (o : Opcode) (x y : Word) :
    readResult k (s.acceptWords o 0 x y) = .error .resultHasNoValue := by
  refine readResult_of_not_done k ?_
  rw [State.acceptWords_zero_phase]
  decide

theorem keyReady_acceptWords_zero (s : State) (o : Opcode) (x y : Word) : (s.acceptWords o 0 x y).keyReady = false :=
  State.keyReady_of_not_run (s.acceptWords_zero_not_run o x y)

/-- The block's next step after InvalidInput takes no key beat (R160). -/
theorem step_acceptWords_zero_keyChannel {s u : State} {o : Opcode} {x y : Word} {ms : List HostMove}
    (turn : s.BlockTurn ms) (h : step (s.acceptWords o 0 x y) = .next u) : u.keyChannel = s.keyChannel :=
  have turnAfter : (s.acceptWords o 0 x y).BlockTurn ms := (s.acceptWords_zero_blockTurn o x y ms).2 turn
  calc u.keyChannel
    _ = (s.acceptWords o 0 x y).keyChannel :=
      step_keyChannel_of_not_run (s.acceptWords_zero_not_run o x y) turnAfter h
    _ = s.keyChannel := s.acceptWords_keyChannel o 0 x y

/-- Settles O11: both commands are `acceptWords` with LEN = 0, which ends in phase ERR. -/
theorem emptyWordSequenceRaisesInvalidInput : Obligations.EmptyWordSequenceRaisesInvalidInput := by
  intro seed1 seed2 s ready
  refine ⟨s.acceptWords .hashword 0 seed1 0, s.acceptWords .hashword2 0 seed1 seed2,
    exec_ready (.hashword 0 seed1) s ready, exec_ready (.hashword2 0 seed1 seed2) s ready,
    s.acceptWords_zero .hashword seed1 0, s.acceptWords_zero .hashword2 seed1 seed2, rfl,
    fun k => ⟨readResult_acceptWords_zero k s .hashword seed1 0,
      readResult_acceptWords_zero k s .hashword2 seed1 seed2⟩,
    ⟨keyReady_acceptWords_zero s .hashword seed1 0, keyReady_acceptWords_zero s .hashword2 seed1 seed2⟩,
    fun ms u turns steps => ?_⟩
  have turn : s.BlockTurn ms := by
    rwa [State.acceptWords_zero_blockTurn, State.acceptWords_zero_blockTurn, or_self_iff] at turns
  rcases steps with stepped | stepped
  · exact step_acceptWords_zero_keyChannel turn stepped
  · exact step_acceptWords_zero_keyChannel turn stepped

/-! ### The KEY step -/

/-- Both word commands have the element rule of R153. -/
theorem keyStep_of_words {s : State} (words : s.Running .hashword ∨ s.Running .hashword2) (w : Word) :
    keyStep w s = .next (s.wordElement w) := by
  unfold keyStep
  rcases words with ⟨-, latched⟩ | ⟨-, latched⟩
  · rw [latched, Opcode_ofBits_bits]
    rfl
  · rw [latched, Opcode_ofBits_bits]
    rfl

/-- An index below LEN does not wrap when it advances (R24). -/
theorem toNat_idx_succ {s : State} (below : s.idx < s.len) : (s.idx + 1).toNat = s.idx.toNat + 1 := by
  bv_omega

/-- Settles O15, from `wordElement_eq`: the triple is complete when the advanced index, which has not wrapped, is a
multiple of 3. -/
theorem wordElementIsAddedToItsLane : Obligations.WordElementIsAddedToItsLane := by
  intro s w words below
  refine ⟨_, rfl, ?_⟩
  rw [keyStep_of_words words, State.wordElement_eq, toNat_idx_succ below]
  rfl

end Sys2Proof.Machine
end

/-! Little-endian packing of a full word (spec/43_hashlittle.md R171): the word is the concatenation of its four bytes, the
byte of the lowest index lowest. -/
section
namespace Sys2Proof.Machine

theorem packLe_eq_append (b0 b1 b2 b3 : Byte) : packLe b0 b1 b2 b3 = b3 ++ b2 ++ b1 ++ b0 := by
  have shifted : ((b3 ++ b2 ++ b1 ++ b0).setWidth 32 : Word) =
      zextByte b3 <<< 24 ||| zextByte b2 <<< 16 ||| zextByte b1 <<< 8 ||| zextByte b0 :=
    BitVec.setWidth_append_append_append_eq_shiftLeft_setWidth_or
  calc packLe b0 b1 b2 b3
    _ = zextByte b3 <<< 24 ||| zextByte b2 <<< 16 ||| zextByte b1 <<< 8 ||| zextByte b0 := by
      rw [packLe, BitVec.or_comm, BitVec.or_comm (_ ||| _), BitVec.or_comm (zextByte b0), BitVec.or_assoc,
        BitVec.or_assoc]
    _ = (b3 ++ b2 ++ b1 ++ b0).setWidth 32 := shifted.symm
    _ = b3 ++ b2 ++ b1 ++ b0 := BitVec.setWidth_eq _

/-- A byte below a bit string is one more digit to the base 256. -/
theorem toNat_append_byte {n : Nat} (high : BitVec n) (low : Byte) :
    (high ++ low).toNat = 256 * high.toNat + low.toNat := by
  rw [BitVec.toNat_append, ← Nat.shiftLeft_add_eq_or_of_lt low.isLt, Nat.shiftLeft_eq, Nat.mul_comm]

theorem toNat_packLe (b0 b1 b2 b3 : Byte) :
    (packLe b0 b1 b2 b3).toNat = b0.toNat + 256 * b1.toNat + 65536 * b2.toNat + 16777216 * b3.toNat := by
  rw [packLe_eq_append, toNat_append_byte, toNat_append_byte, toNat_append_byte]
  omega

/-! ### Every byte is where R171 puts it -/

theorem packLe_byte0 (b0 b1 b2 b3 : Byte) : (packLe b0 b1 b2 b3).extractLsb' 0 8 = b0 := by
  rw [packLe_eq_append, BitVec.extractLsb'_append_eq_right]

theorem packLe_byte1 (b0 b1 b2 b3 : Byte) : (packLe b0 b1 b2 b3).extractLsb' 8 8 = b1 := by
  rw [packLe_eq_append, BitVec.extractLsb'_append_eq_of_le (by decide), BitVec.extractLsb'_append_eq_right]

theorem packLe_byte2 (b0 b1 b2 b3 : Byte) : (packLe b0 b1 b2 b3).extractLsb' 16 8 = b2 := by
  rw [packLe_eq_append, BitVec.extractLsb'_append_eq_of_le (by decide), BitVec.extractLsb'_append_eq_of_le (by decide),
    BitVec.extractLsb'_append_eq_right]

theorem packLe_byte3 (b0 b1 b2 b3 : Byte) : (packLe b0 b1 b2 b3).extractLsb' 24 8 = b3 := by
  rw [packLe_eq_append, BitVec.extractLsb'_append_eq_of_le (by decide), BitVec.extractLsb'_append_eq_of_le (by decide),
    BitVec.extractLsb'_append_eq_left]

/-- Settles O52: the formula is `packLe` itself; the number and the bytes are read off `packLe_eq_append`. -/
theorem littleEndianPackingOfAWord : Obligations.LittleEndianPackingOfAWord :=
  ⟨fun b0 b1 b2 b3 =>
    ⟨rfl, toNat_packLe b0 b1 b2 b3, packLe_byte0 b0 b1 b2 b3, packLe_byte1 b0 b1 b2 b3, packLe_byte2 b0 b1 b2 b3,
      packLe_byte3 b0 b1 b2 b3⟩,
    by decide⟩

end Sys2Proof.Machine
end

/-! The KEY step of HASHBIG (spec/44_hashbig.md R193): the byte element rule in big-endian order. -/
section
namespace Sys2Proof.Machine

theorem keyStep_of_hashbig {s : State} (runs : s.Running .hashbig) (k : Word) :
    keyStep k s = .next (s.byteElement .big (elementByte k)) := by
  obtain ⟨-, latched⟩ := runs
  unfold keyStep
  rw [latched, Opcode_ofBits_bits]
  rfl

/-- Settles O17, from `byteElement_eq` in big-endian order: the block is complete when the advanced index, which has not
wrapped, is a multiple of 12. -/
theorem bigEndianByteIsPacked : Obligations.BigEndianByteIsPacked := by
  intro s k runs below
  refine ⟨_, _, rfl, rfl, ?_⟩
  rw [keyStep_of_hashbig runs, State.byteElement_eq, toNat_idx_succ below]
  rfl

end Sys2Proof.Machine
end

/-! Big-endian packing of a full word (spec/44_hashbig.md R191): the word is the concatenation of its four bytes, the byte
of the lowest index highest, so it is the little-endian packing of the bytes in reverse. -/
section
namespace Sys2Proof.Machine

theorem packBe_eq_append (b0 b1 b2 b3 : Byte) : packBe b0 b1 b2 b3 = b0 ++ b1 ++ b2 ++ b3 := by
  have shifted : ((b0 ++ b1 ++ b2 ++ b3).setWidth 32 : Word) = packBe b0 b1 b2 b3 :=
    BitVec.setWidth_append_append_append_eq_shiftLeft_setWidth_or
  exact shifted.symm.trans (BitVec.setWidth_eq _)

theorem packBe_eq_packLe_reverse (b0 b1 b2 b3 : Byte) : packBe b0 b1 b2 b3 = packLe b3 b2 b1 b0 :=
  (packBe_eq_append b0 b1 b2 b3).trans (packLe_eq_append b3 b2 b1 b0).symm

theorem toNat_packBe (b0 b1 b2 b3 : Byte) :
    (packBe b0 b1 b2 b3).toNat = 16777216 * b0.toNat + 65536 * b1.toNat + 256 * b2.toNat + b3.toNat := by
  rw [packBe_eq_packLe_reverse, toNat_packLe]
  omega

/-! ### Every byte is where R191 puts it -/

theorem packBe_byte0 (b0 b1 b2 b3 : Byte) : (packBe b0 b1 b2 b3).extractLsb' 24 8 = b0 := by
  rw [packBe_eq_packLe_reverse, packLe_byte3]

theorem packBe_byte1 (b0 b1 b2 b3 : Byte) : (packBe b0 b1 b2 b3).extractLsb' 16 8 = b1 := by
  rw [packBe_eq_packLe_reverse, packLe_byte2]

theorem packBe_byte2 (b0 b1 b2 b3 : Byte) : (packBe b0 b1 b2 b3).extractLsb' 8 8 = b2 := by
  rw [packBe_eq_packLe_reverse, packLe_byte1]

theorem packBe_byte3 (b0 b1 b2 b3 : Byte) : (packBe b0 b1 b2 b3).extractLsb' 0 8 = b3 := by
  rw [packBe_eq_packLe_reverse, packLe_byte0]

/-- Settles O53: the formula is `packBe` itself; the number and the bytes are those of `packLe` on the bytes in
reverse. -/
theorem bigEndianPackingOfAWord : Obligations.BigEndianPackingOfAWord :=
  ⟨fun b0 b1 b2 b3 =>
    ⟨rfl, toNat_packBe b0 b1 b2 b3, packBe_byte0 b0 b1 b2 b3, packBe_byte1 b0 b1 b2 b3, packBe_byte2 b0 b1 b2 b3,
      packBe_byte3 b0 b1 b2 b3, packBe_eq_packLe_reverse b0 b1 b2 b3⟩,
    by decide⟩

end Sys2Proof.Machine
end

/-! The data path of ONEATATIME (spec/45_oneatatime.md R201, R202): the assignments of `oaat_step` and `oaat_fin`, as words
and as numbers, and the accumulator 0, which zero bytes and the finalisation leave at 0. -/
section
namespace Sys2Proof.Machine

/-- `h += h << k`: what is shifted past bit 31, and the carry out of the sum, are lost. -/
theorem toNat_add_shiftLeft_self (h : Word) (k : Nat) :
    (h + (h <<< k)).toNat = (h.toNat + h.toNat * 2 ^ k) % 2 ^ 32 := by
  rw [BitVec.toNat_add, BitVec.toNat_shiftLeft, Nat.shiftLeft_eq, Nat.add_mod_mod]

/-- The right shift is logical. -/
theorem toNat_ushiftRight_eq_div (h : Word) (k : Nat) : (h >>> k).toNat = h.toNat / 2 ^ k := by
  rw [BitVec.toNat_ushiftRight, Nat.shiftRight_eq_div_pow]

/-- A byte enters a sum as an unsigned number. -/
theorem toNat_add_setWidth_byte (h : Word) (x : Byte) :
    (h + x.setWidth 32).toNat = (h.toNat + x.toNat) % 2 ^ 32 := by
  have fits : x.toNat < 2 ^ 32 := Nat.lt_trans x.isLt (by decide)
  rw [BitVec.toNat_add, BitVec.toNat_setWidth, Nat.mod_eq_of_lt fits]

theorem oaatStep_zero : oaatStep 0 0 = 0 := by decide

theorem oaatFin_zero : oaatFin 0 = 0 := by decide

/-- Settles O58: the assignments are those of the definitions, and each has its number by one of the three lemmas. -/
theorem oneatatimePerformsItsAssignments : Obligations.OneatatimePerformsItsAssignments := by
  refine ⟨fun h x => ?_, fun h => ?_, oaatFin_zero⟩
  · exact ⟨_, _, rfl, rfl, rfl, toNat_add_setWidth_byte h x, toNat_add_shiftLeft_self _ 10,
      toNat_ushiftRight_eq_div _ 6⟩
  · exact ⟨_, _, rfl, rfl, rfl, toNat_add_shiftLeft_self h 3, toNat_ushiftRight_eq_div _ 11,
      toNat_add_shiftLeft_self _ 15⟩

/-- Zero bytes never leave the accumulator 0. -/
theorem foldl_oaatStep_zeros (n : Nat) : (List.replicate n (0 : Byte)).foldl oaatStep 0 = 0 := by
  induction n with
  | zero => rfl
  | succ n ih => rw [List.replicate_succ, List.foldl_cons, oaatStep_zero, ih]

theorem oneatatimeFn_zeros (n : Nat) : oneatatimeFn (List.replicate n 0) = 0 := by
  rw [oneatatimeFn, foldl_oaatStep_zeros, oaatFin_zero]

end Sys2Proof.Machine
end

/-! The command ONEATATIME (spec/45_oneatatime.md R203, R205): one KEY step, a list of KEY steps, which folds the list into
`h`, and the FINISH step. -/
section
namespace Sys2Proof.Machine

/-! ### The KEY step -/

theorem State.oaatElement_eq (s : State) (x : Byte) :
    s.oaatElement x = { s with h := oaatStep s.h x, idx := s.idx + 1 } := rfl

theorem keyStep_of_oneatatime {s : State} (latched : s.op = Opcode.oneatatime.bits) (k : Word) :
    keyStep k s = .next (s.oaatElement (elementByte k)) := by
  unfold keyStep
  rw [latched, Opcode_ofBits_bits]
  rfl

/-- Settles O18, from `oaatElement_eq`. -/
theorem oneatatimeFoldsOneByte : Obligations.OneatatimeFoldsOneByte := by
  intro s k ⟨_, latched⟩ _
  rw [keyStep_of_oneatatime latched, State.oaatElement_eq, elementByte]

/-! ### A list of KEY steps -/

/-- The state after one payload after the other was folded into `h`: the loop of `oneatatime_fn` (R204). -/
def State.oaatElements (s : State) (e : List Word) : State :=
  { s with h := (e.map elementByte).foldl oaatStep s.h, idx := s.idx + BitVec.ofNat 32 e.length }

theorem State.oaatElements_nil (s : State) : s.oaatElements [] = s := by
  have idxKept : s.idx + BitVec.ofNat 32 0 = s.idx := BitVec.add_zero s.idx
  simp [State.oaatElements, idxKept]

theorem State.oaatElements_cons (s : State) (k : Word) (ks : List Word) :
    s.oaatElements (k :: ks) = (s.oaatElement (elementByte k)).oaatElements ks := by
  have counted : s.idx + BitVec.ofNat 32 (ks.length + 1) = s.idx + 1 + BitVec.ofNat 32 ks.length := by
    rw [BitVec.ofNat_add, BitVec.add_comm (BitVec.ofNat 32 ks.length), ← BitVec.add_assoc]
    rfl
  simp [State.oaatElements, State.oaatElement_eq, counted]

theorem keySteps_of_oneatatime {s : State} (latched : s.op = Opcode.oneatatime.bits) (e : List Word) :
    keySteps e s = .next (s.oaatElements e) := by
  induction e generalizing s with
  | nil => rw [keySteps_nil, State.oaatElements_nil]
  | cons k ks ih =>
    have stillLatched : (s.oaatElement (elementByte k)).op = Opcode.oneatatime.bits := latched
    rw [keySteps_cons ks (keyStep_of_oneatatime latched k), ih stillLatched, State.oaatElements_cons]

/-! ### The FINISH step -/

theorem finishOneatatime_eq (s : State) :
    finishOneatatime s = { s with h := oaatFin s.h, res0 := oaatFin s.h, nres := 1, phase := .done } := rfl

theorem finishStep_of_oneatatime {s : State} (latched : s.op = Opcode.oneatatime.bits) :
    finishStep s = .next (finishOneatatime s) := by
  unfold finishStep
  rw [latched, Opcode_ofBits_bits]

/-! ### The whole command -/

section Fed
variable {len : Word} {e : List Word} (fed : e.length = len.toNat)
include fed

/-- LEN payloads advance the index, which the CMD step cleared, to LEN. -/
theorem idx_after_fed : (0 : Word) + BitVec.ofNat 32 e.length = len := by
  rw [fed, BitVec.ofNat_toNat, BitVec.setWidth_eq]
  exact BitVec.zero_add len

/-- The state that an accepted ONEATATIME reaches when its last payload is folded in. -/
theorem oaatElements_acceptOneAtATime (s : State) :
    (s.acceptOneAtATime .oneatatime len).oaatElements e =
      { s with
        op := 0x07, len := len, h := (e.map elementByte).foldl oaatStep 0, idx := len, err := .none, nres := 0
        phase := .run } := by
  rw [State.acceptOneAtATime_eq, State.oaatElements, idx_after_fed fed]
  rfl

/-- R106: after LEN payloads the FINISH step is enabled. -/
theorem finishEnabled_fed_oneatatime (s : State) :
    ((s.acceptOneAtATime .oneatatime len).oaatElements e).finishEnabled = true := by
  rw [oaatElements_acceptOneAtATime fed, State.finishEnabled_iff]
  exact ⟨rfl, rfl⟩

theorem finishOneatatime_fed (s : State) :
    finishOneatatime ((s.acceptOneAtATime .oneatatime len).oaatElements e) =
      { s with
        op := 0x07, len := len, idx := len, h := oneatatimeFn (e.map elementByte)
        res0 := oneatatimeFn (e.map elementByte), nres := 1, err := .none, phase := .done } := by
  rw [oaatElements_acceptOneAtATime fed, finishOneatatime_eq]
  rfl

end Fed

/-- Settles O29: the CMD step clears `h`, the KEY steps fold the payloads into it, the FINISH step reports its
finalisation; the rule's values are computed. -/
theorem oneatatimeCompletes : Obligations.OneatatimeCompletes := by
  refine ⟨fun len s e ready fed => ?_, by decide, oneatatimeFn_zeros, oaatFin_zero, oaatStep_zero, by decide, by decide,
    by decide, by decide, by decide, by decide⟩
  exact ⟨s.acceptOneAtATime .oneatatime len, (s.acceptOneAtATime .oneatatime len).oaatElements e, _,
    decode_ofWords .oneatatime len, exec_ready (.oneatatime len) s ready, s.acceptOneAtATime_eq .oneatatime len,
    keySteps_of_oneatatime rfl e, finishEnabled_fed_oneatatime fed s, finishStep_of_oneatatime rfl,
    finishOneatatime_fed fed s⟩

end Sys2Proof.Machine
end

/-! The errors of a CMD step (spec/60_exceptions.md R222, R225, R229): which descriptors select no command, and which
commands raise InvalidInput. -/
section
namespace Sys2Proof.Machine

/-! ### Descriptors that select no command -/

/-- The decoder's two errors are the two causes of R225. -/
theorem decode_error_iff (d : Descriptor) : (∃ e, decode d = .error e) ↔ d.rsv ≠ 0 ∨ 8 ≤ d.opc.toNat := by
  rw [decode_eq, ← Opcode_ofBits_eq_none]
  by_cases reserved : d.rsv = 0
  · cases named : Opcode.ofBits? d.opc with
    | none => simp [reserved]
    | some o => simp [reserved]
  · rw [if_pos reserved]
    exact ⟨fun _ => .inl reserved, fun _ => ⟨_, rfl⟩⟩

theorem cmdStep_of_illegal {d : Descriptor} {s : State} (ready : s.phase ≠ .run)
    (illegal : d.rsv ≠ 0 ∨ 8 ≤ d.opc.toNat) : cmdStep d s = .next s.acceptIllegal := by
  obtain ⟨e, refused⟩ := (decode_error_iff d).2 illegal
  rcases cmdStep_ready d s ready with ⟨i, decoded, -⟩ | ⟨-, -, raises⟩
  · cases refused.symm.trans decoded
  · exact raises

theorem cmdStep_of_legal {d : Descriptor} {s : State} (ready : s.phase ≠ .run)
    (legal : ¬ (d.rsv ≠ 0 ∨ 8 ≤ d.opc.toNat)) :
    ∃ o : Opcode, d.opc = o.bits ∧
      cmdStep d s = .next (acceptInstr (o.withOperands d.d1 d.d2 d.d3) s) := by
  rcases cmdStep_ready d s ready with ⟨i, decoded, accepts⟩ | ⟨e, refused, -⟩
  · obtain ⟨-, o, named, rfl⟩ := (decode_ok_iff d i).1 decoded
    exact ⟨o, (Opcode_ofBits_eq_some d.opc o).1 named, accepts⟩
  · exact absurd ((decode_error_iff d).1 ⟨e, refused⟩) legal

/-! ### The error of a CMD step -/

theorem State.acceptWords_err (s : State) (o : Opcode) (n x y : Word) :
    (s.acceptWords o n x y).err = if n = 0 then .invalidInput else .none := by
  by_cases empty : n = 0
  · rw [if_pos empty, empty, State.acceptWords_zero]
  · rw [if_neg empty, State.acceptWords_pos s o n x y empty]

/-- The word commands, which the codes 0x02 and 0x03 name, raise InvalidInput for LEN = 0; no other command raises
(R220, R222). -/
theorem acceptInstr_err (o : Opcode) (x y z : Word) (s : State) :
    (acceptInstr (o.withOperands x y z) s).err =
      if (o.bits = 0x02 ∨ o.bits = 0x03) ∧ x = 0 then .invalidInput else .none := by
  cases o with
  | hashword => simpa [Opcode.bits, Opcode.withOperands, acceptInstr] using s.acceptWords_err .hashword x y 0
  | hashword2 => simpa [Opcode.bits, Opcode.withOperands, acceptInstr] using s.acceptWords_err .hashword2 x y z
  | _ => exact (if_neg fun ⟨words, _⟩ => absurd words (by decide)).symm

/-- The error of an accepted descriptor, by the order of the checks of R79. -/
theorem cmdStep_next_err (d : Descriptor) {s : State} (ready : s.phase ≠ .run) :
    ∃ t, cmdStep d s = .next t ∧
      t.err =
        if d.rsv ≠ 0 ∨ 8 ≤ d.opc.toNat then .illegalCommand
        else if (d.opc = 0x02 ∨ d.opc = 0x03) ∧ d.d1 = 0 then .invalidInput
        else .none := by
  by_cases illegal : d.rsv ≠ 0 ∨ 8 ≤ d.opc.toNat
  · exact ⟨s.acceptIllegal, cmdStep_of_illegal ready illegal, (if_pos illegal).symm⟩
  · obtain ⟨o, opc, accepts⟩ := cmdStep_of_legal ready illegal
    refine ⟨_, accepts, ?_⟩
    rw [if_neg illegal, opc, acceptInstr_err]

/-- ERR is entered with an error, RUN without one (R29). -/
theorem cmdStep_phase_eq {d : Descriptor} {s t : State} (ready : s.phase ≠ .run) (h : cmdStep d s = .next t) :
    t.phase = if t.err = .none then .run else .err := by
  rcases cmdStep_err ready h with ⟨runs, clear⟩ | ⟨fails, code | code⟩
  · rw [runs, clear, if_pos rfl]
  · rw [fails, code, if_neg (by decide)]
  · rw [fails, code, if_neg (by decide)]

/-- Settles O12: an illegal descriptor raises by `acceptIllegal`; a legal one selects a command, whose only error is
InvalidInput. -/
theorem illegalDescriptorRaisesIllegalCommand : Obligations.IllegalDescriptorRaisesIllegalCommand := by
  intro d s ready
  refine ⟨fun illegal => ?_, fun legal => ?_⟩
  · rw [← State.acceptIllegal_eq]
    exact cmdStep_of_illegal ready illegal
  · obtain ⟨o, -, accepts⟩ := cmdStep_of_legal ready legal
    refine ⟨_, accepts, ?_⟩
    rw [acceptInstr_err]
    split
    · decide
    · decide

/-- Settles O13: the error is that of `cmdStep_next_err`, and the phase follows from it. -/
theorem illegalCommandIsReportedBeforeInvalidInput : Obligations.IllegalCommandIsReportedBeforeInvalidInput := by
  intro d s ready
  obtain ⟨t, accepts, code⟩ := cmdStep_next_err d ready
  exact ⟨t, accepts, code, cmdStep_phase_eq ready accepts⟩

end Sys2Proof.Machine
end

/-! Decoding and encoding (spec/30_encoding.md R70 to R74): the descriptor of a command is selected by its whole D0, and
its operands come back unchanged. -/
section
namespace Sys2Proof.Machine

/-! ### Decoding what was encoded -/

/-- The operand words of a command in D1, D2, D3, with 0 where its format has none (R72, R73). -/
def operandWords : Instr → Word × Word × Word
  | .mix a b c => (a, b, c)
  | .final a b c => (a, b, c)
  | .hashword len seed1 => (len, seed1, 0)
  | .hashword2 len seed1 seed2 => (len, seed1, seed2)
  | .hashlittle len seed1 => (len, seed1, 0)
  | .hashlittle2 len seed1 seed2 => (len, seed1, seed2)
  | .hashbig len seed1 => (len, seed1, 0)
  | .oneatatime len => (len, 0, 0)

theorem encode_eq_ofWords (i : Instr) :
    encode i = .ofWords i.opcode.d0 (operandWords i).1 (operandWords i).2.1 (operandWords i).2.2 := by
  cases i <;> rfl

theorem withOperands_operandWords (i : Instr) :
    i.opcode.withOperands (operandWords i).1 (operandWords i).2.1 (operandWords i).2.2 = i := by
  cases i <;> rfl

/-- Settles O1: `encode` writes opcode and operand words, from which `decode` makes the command again. -/
theorem decodeOfEncodeIsTheInstruction : Obligations.DecodeOfEncodeIsTheInstruction := by
  intro i
  rw [encode_eq_ofWords, decode_ofWords, withOperands_operandWords]

/-! ### D0 as a whole -/

/-- D0 is its field RSV above its field OPC (R70). -/
theorem Descriptor.d0_eq_append (d : Descriptor) : d.d0 = (d.rsv ++ d.opc : BitVec (24 + 8)) := by
  have joined : d.d0.extractLsb' 8 24 ++ d.d0.extractLsb' 0 8 = d.d0.extractLsb' 0 (24 + 8) :=
    BitVec.extractLsb'_append_extractLsb'_eq_extractLsb' rfl
  exact (joined.trans BitVec.extractLsb'_eq_self).symm

theorem Opcode.d0_eq_append (o : Opcode) : o.d0 = ((0 : BitVec 24) ++ o.bits : BitVec (24 + 8)) := by
  cases o <;> decide

/-- Comparing the whole of D0 with the opcode value is checking RSV and reading OPC (R71, R79). -/
theorem Descriptor.d0_eq_iff (d : Descriptor) (o : Opcode) : d.d0 = o.d0 ↔ d.rsv = 0 ∧ d.opc = o.bits := by
  constructor
  · intro whole
    rw [Descriptor.rsv, Descriptor.opc, whole, Opcode.rsv_d0, Opcode.opc_d0]
    exact ⟨rfl, rfl⟩
  · rintro ⟨reserved, opc⟩
    rw [Descriptor.d0_eq_append, Opcode.d0_eq_append, reserved, opc]

/-- Settles O2: the decoder's two checks are the comparison of the whole of D0. -/
theorem decodeComparesTheWholeOfD0 : Obligations.DecodeComparesTheWholeOfD0 := by
  intro d i
  change _ ↔ d.d0 = i.opcode.d0 ∧ _
  rw [decode_ok_iff, Descriptor.d0_eq_iff]
  constructor
  · rintro ⟨reserved, o, named, rfl⟩
    rw [Opcode.opcode_withOperands]
    exact ⟨⟨reserved, (Opcode_ofBits_eq_some _ _).1 named⟩, rfl⟩
  · rintro ⟨⟨reserved, opc⟩, operands⟩
    exact ⟨reserved, i.opcode, (Opcode_ofBits_eq_some _ _).2 opc, operands⟩

/-- Settles O3: each word is decoded by computation. -/
theorem writtenOutDescriptorsDecode : Obligations.WrittenOutDescriptorsDecode :=
  ⟨rfl, rfl, rfl, rfl, rfl, rfl, rfl, rfl⟩

end Sys2Proof.Machine
end

/-! What each kind of step writes, said once: every register that a KEY, a FINISH or a CMD step can change. -/
section
namespace Sys2Proof.Machine

/-! ### The KEY step -/

/-- A KEY step writes the lanes, `h` and `pk`, and advances `idx` (R104). -/
theorem keyStep_writes {k : Word} {s t : State} (h : keyStep k s = .next t) :
    ∃ l x p, t = { s.setLanes l with h := x, pk := p, idx := s.idx + 1 } := by
  rcases keyStep_cases h with ⟨-, rfl⟩ | ⟨-, rfl⟩ | ⟨-, rfl⟩ | ⟨-, rfl⟩
  · exact ⟨_, s.h, s.pk, s.wordElement_eq k⟩
  · exact ⟨_, s.h, _, s.byteElement_eq .little (elementByte k)⟩
  · exact ⟨_, s.h, _, s.byteElement_eq .big (elementByte k)⟩
  · exact ⟨s.lanes, _, s.pk, rfl⟩

/-! ### The FINISH step -/

/-- The lanes of a byte command after the flush of FINISH: an incomplete word is added when there is one (R178, R194). -/
def State.flushedLanes (s : State) : Lanes :=
  if s.len.toNat % 4 = 0 then s.lanes else s.lanes.addTo (laneOfByteIndex s.len) s.pk

@[simp] theorem State.flushPartialWord_lanes (s : State) : s.flushPartialWord.lanes = s.flushedLanes := by
  rw [State.flushPartialWord_eq]
  rfl

@[simp] theorem State.flushPartialWord_pk (s : State) :
    s.flushPartialWord.pk = if s.len.toNat % 4 = 0 then s.pk else 0 := by
  rw [State.flushPartialWord_eq]

/-- Flush and `final3` together, as one record (R178, R179). -/
theorem State.finalBytes_flushPartialWord (s : State) :
    s.flushPartialWord.finalBytes =
      { s.setLanes (final3 s.flushedLanes) with pk := if s.len.toNat % 4 = 0 then s.pk else 0 } := by
  rw [State.finalBytes_eq, State.finalLanes, State.flushPartialWord_lanes, State.flushPartialWord_eq]
  rfl

/-- A FINISH step writes the lanes, `h`, `pk` and the result words, and enters DONE with as many result words as its
command has (R30, R107). -/
theorem finishStep_writes {s t : State} (h : finishStep s = .next t) :
    ∃ l x p r0 r1 r2 n, t = { s.setLanes l with
        h := x, pk := p, res0 := r0, res1 := r1, res2 := r2, nres := n, phase := .done } ∧
      (Opcode.ofBits? s.op).map Opcode.results = some n.toNat := by
  rcases finishStep_cases h with ⟨latched, rfl⟩ | ⟨latched, rfl⟩ | ⟨latched, rfl⟩ | ⟨latched, rfl⟩ | ⟨latched, rfl⟩ |
    ⟨latched, rfl⟩ | ⟨latched, rfl⟩ | ⟨latched, rfl⟩
  · exact ⟨_, _, _, _, _, _, 3, rfl, by rw [latched]; rfl⟩
  · exact ⟨_, _, _, _, _, _, 3, rfl, by rw [latched]; rfl⟩
  · exact ⟨_, _, _, _, _, _, 1, rfl, by rw [latched]; rfl⟩
  · exact ⟨_, _, _, _, _, _, 2, rfl, by rw [latched]; rfl⟩
  · exact ⟨final3 s.flushedLanes, s.h, _, _, s.res1, s.res2, 1,
      by rw [finishHashlittle, State.finalBytes_flushPartialWord]; rfl, by rw [latched]; rfl⟩
  · exact ⟨final3 s.flushedLanes, s.h, _, _, _, s.res2, 2,
      by rw [finishHashlittle2, State.finalBytes_flushPartialWord]; rfl, by rw [latched]; rfl⟩
  · exact ⟨final3 s.flushedLanes, s.h, _, _, s.res1, s.res2, 1,
      by rw [finishHashbig, State.finalBytes_flushPartialWord]; rfl, by rw [latched]; rfl⟩
  · exact ⟨s.lanes, _, s.pk, _, s.res1, s.res2, 1, rfl, by rw [latched]; rfl⟩

/-! ### The CMD step -/

/-- A word command keeps the lanes when it raises and writes them when it does not; the operands are latched in both
cases (R102, R160). -/
theorem State.acceptWords_writes (s : State) (o : Opcode) (n x y : Word) :
    ∃ l i ph e, s.acceptWords o n x y = { s.setLanes l with
      op := o.bits, len := n, seed1 := x, seed2 := y, idx := i, phase := ph, err := e, nres := 0 } := by
  by_cases empty : n = 0
  · subst empty
    exact ⟨s.lanes, s.idx, .err, .invalidInput, s.acceptWords_zero o x y⟩
  · exact ⟨initLanes (initConstant + (n <<< 2) + x) y, 0, .run, .none, s.acceptWords_pos o n x y empty⟩

/-- Accepting a command clears `nres`, latches its opcode, and leaves the result words and what the host offers
alone (R102). -/
theorem acceptInstr_writes (i : Instr) (s : State) :
    ∃ l x p n y z j ph e, acceptInstr i s = { s.setLanes l with
      h := x, pk := p, op := i.opcode.bits, len := n, seed1 := y, seed2 := z, idx := j, phase := ph, err := e
      nres := 0 } := by
  cases i with
  | hashword n y =>
    obtain ⟨l, j, ph, e, accepts⟩ := s.acceptWords_writes .hashword n y 0
    exact ⟨l, s.h, s.pk, n, y, 0, j, ph, e, accepts⟩
  | hashword2 n y z =>
    obtain ⟨l, j, ph, e, accepts⟩ := s.acceptWords_writes .hashword2 n y z
    exact ⟨l, s.h, s.pk, n, y, z, j, ph, e, accepts⟩
  | mix x y z => exact ⟨⟨x, y, z⟩, s.h, s.pk, 0, s.seed1, s.seed2, 0, .run, .none, rfl⟩
  | final x y z => exact ⟨⟨x, y, z⟩, s.h, s.pk, 0, s.seed1, s.seed2, 0, .run, .none, rfl⟩
  | hashlittle n y => exact ⟨initLanes (initConstant + n + y) 0, s.h, 0, n, y, 0, 0, .run, .none, rfl⟩
  | hashlittle2 n y z => exact ⟨initLanes (initConstant + n + y) z, s.h, 0, n, y, z, 0, .run, .none, rfl⟩
  | hashbig n y => exact ⟨initLanes (initConstant + n + y) 0, s.h, 0, n, y, 0, 0, .run, .none, rfl⟩
  | oneatatime n => exact ⟨s.lanes, 0, s.pk, n, s.seed1, s.seed2, 0, .run, .none, rfl⟩

/-- What an accepted descriptor does: the CMD step of its command, or the two registers and `nres` that IllegalCommand
writes. -/
theorem cmdStep_cases {d : Descriptor} {s t : State} (ready : s.phase ≠ .run) (h : cmdStep d s = .next t) :
    (∃ i, t = acceptInstr i s) ∨ t = { s with phase := .err, err := .illegalCommand, nres := 0 } := by
  rcases cmdStep_ready d s ready with ⟨i, -, accepts⟩ | ⟨e, -, raises⟩
  · exact .inl ⟨i, Host.Outcome.next.inj (h.symm.trans accepts)⟩
  · exact .inr (Host.Outcome.next.inj (h.symm.trans raises))

end Sys2Proof.Machine
end

/-! Which step is taken (spec/40_sequencer.md R101, R103, R106): one lemma per kind of step on the block's turn, and one
per move of the host. -/
section
namespace Sys2Proof.Machine

/-! ### The block's turn -/

/-- With nothing enabled the block waits (R242, R256). -/
theorem blockStep_wait {s : State}
    (nothing : s.phase = .run ∧ s.idx ≠ s.len ∧ (s.keyChannel = [] ∨ s.len < s.idx) ∨
      s.phase ≠ .run ∧ s.cmdChannel = []) :
    blockStep s = .next s := by
  rcases blockStep_cases s with ⟨runs, consumed, -⟩ | ⟨k, ks, runs, below, offered, -⟩ |
    ⟨d, ds, ready, offered, -⟩ | ⟨waits, -⟩
  · rcases nothing with ⟨-, more, -⟩ | ⟨ready, -⟩
    · exact absurd consumed more
    · exact absurd runs ready
  · rcases nothing with ⟨-, -, empty | above⟩ | ⟨ready, -⟩
    · cases empty.symm.trans offered
    · exact absurd above (BitVec.lt_asymm below)
    · exact absurd runs ready
  · rcases nothing with ⟨runs, -⟩ | ⟨-, empty⟩
    · exact absurd runs ready
    · cases empty.symm.trans offered
  · exact waits

section BlockTurn
variable {s : State} {ms : List HostMove} (turn : s.BlockTurn ms)
include turn

theorem step_finish (runs : s.phase = .run) (consumed : s.idx = s.len) :
    step s = finishStep { s with host := ms } :=
  (step_of_blockTurn turn).trans (blockStep_finish (s := s.setHost ms) runs consumed)

theorem step_key {k : Word} {ks : List Word} (runs : s.phase = .run) (below : s.idx < s.len)
    (offered : s.keyChannel = k :: ks) : step s = keyStep k { s with keyChannel := ks, host := ms } :=
  (step_of_blockTurn turn).trans (blockStep_key (s := s.setHost ms) runs below offered)

theorem step_cmd {d : Descriptor} {ds : List Descriptor} (ready : s.phase ≠ .run) (offered : s.cmdChannel = d :: ds) :
    step s = cmdStep d { s with cmdChannel := ds, host := ms } :=
  (step_of_blockTurn turn).trans (blockStep_cmd (s := s.setHost ms) ready offered)

theorem step_wait
    (nothing : s.phase = .run ∧ s.idx ≠ s.len ∧ (s.keyChannel = [] ∨ s.len < s.idx) ∨
      s.phase ≠ .run ∧ s.cmdChannel = []) :
    step s = .next { s with host := ms } :=
  (step_of_blockTurn turn).trans (blockStep_wait (s := s.setHost ms) nothing)

end BlockTurn

/-! ### A command offered to the block -/

theorem cmdStep_of_decode {d : Descriptor} {i : Instr} (decoded : decode d = .ok i) (s : State) :
    cmdStep d s = exec i s := by
  unfold cmdStep
  rw [decoded]

/-- Settles O5: acceptance is the CMD step, which is `exec` of the decoded command. -/
theorem stepRunsTheDecodedInstruction : Obligations.StepRunsTheDecodedInstruction :=
  fun _ _ _ _ _ ready offered decoded turn => (step_cmd turn ready offered).trans (cmdStep_of_decode decoded _)

/-- Settles O6, one lemma per enabled step; a move of the host is `hostTurn`. -/
theorem stepTakesTheEnabledStep : Obligations.StepTakesTheEnabledStep :=
  ⟨fun _ _ turn => ⟨step_finish turn, fun _ _ => step_key turn, fun _ _ => step_cmd turn, step_wait turn⟩,
    fun _ _ => ⟨step_of_move, fun _ => step_of_move, fun _ => step_of_move, step_of_move, step_of_move, step_of_move⟩⟩

/-! ### What a step leaves on the channels -/

theorem exec_busy (i : Instr) {s : State} (busy : s.phase = .run) : exec i s = .next s := by
  rw [exec_eq, whenCmdReady_busy s _ busy]

theorem cmdStep_busy (d : Descriptor) {s : State} (busy : s.phase = .run) : cmdStep d s = .next s := by
  unfold cmdStep
  split
  · exact exec_busy _ busy
  · exact whenCmdReady_busy s _ busy

/-- In RUN the block's step is FINISH, KEY or waiting, and none of them accepts a descriptor. -/
theorem blockStep_cmdChannel_of_run {s t : State} (busy : s.phase = .run) (h : blockStep s = .next t) :
    t.cmdChannel = s.cmdChannel := by
  rcases blockStep_cases s with ⟨-, -, finish⟩ | ⟨k, ks, -, -, -, key⟩ | ⟨d, ds, ready, -⟩ | ⟨waits, -⟩
  · obtain ⟨_, _, _, _, _, _, _, rfl, -⟩ := finishStep_writes (finish.symm.trans h)
    rfl
  · obtain ⟨_, _, _, rfl⟩ := keyStep_writes (key.symm.trans h)
    rfl
  · exact absurd busy ready
  · obtain rfl := Host.Outcome.next.inj (waits.symm.trans h)
    rfl

/-- Settles O14: `exec` and the CMD step need `cmd_ready`, and the block's step in RUN takes no descriptor. -/
theorem descriptorsOfferedWhileRunningStayOffered : Obligations.DescriptorsOfferedWhileRunningStayOffered :=
  fun s busy => ⟨fun i => exec_busy i busy, fun d => cmdStep_busy d busy, fun ms _ turn h =>
    blockStep_cmdChannel_of_run (s := s.setHost ms) busy ((step_of_blockTurn turn).symm.trans h)⟩

/-- The KEY step alone takes a beat, and it is taken when there is one (R103). -/
theorem blockStep_keyChannel {s t : State} (h : blockStep s = .next t) :
    t.keyChannel = if s.phase = .run ∧ s.idx < s.len then s.keyChannel.tail else s.keyChannel := by
  rcases blockStep_cases s with ⟨-, consumed, finish⟩ | ⟨k, ks, runs, below, offered, key⟩ | ⟨d, ds, ready, -⟩ |
    ⟨waits, ⟨-, -, starved⟩ | ⟨ready, -⟩⟩
  · rw [if_neg fun ⟨_, below⟩ => BitVec.ne_of_lt below consumed]
    obtain ⟨_, _, _, _, _, _, _, rfl, -⟩ := finishStep_writes (finish.symm.trans h)
    rfl
  · rw [if_pos ⟨runs, below⟩, offered]
    obtain ⟨_, _, _, rfl⟩ := keyStep_writes (key.symm.trans h)
    rfl
  · rw [if_neg fun ⟨runs, _⟩ => ready runs]
    exact blockStep_keyChannel_of_not_run ready h
  · obtain rfl := Host.Outcome.next.inj (waits.symm.trans h)
    split
    next enabled => rw [starved enabled.2, List.tail_nil]
    next => rfl
  · rw [if_neg fun ⟨runs, _⟩ => ready runs]
    exact blockStep_keyChannel_of_not_run ready h

/-- Settles O20, from `blockStep_keyChannel` on the state with the host's moves moved on. -/
theorem keyBeatsAreAcceptedOnlyWhenReady : Obligations.KeyBeatsAreAcceptedOnlyWhenReady :=
  fun s _ ms turn h => blockStep_keyChannel (s := s.setHost ms) ((step_of_blockTurn turn).symm.trans h)

end Sys2Proof.Machine
end

/-! The CMD step of every command as one record (spec/40_sequencer.md R102; spec/42_hashword.md R151, R152;
spec/43_hashlittle.md R176; spec/45_oneatatime.md R200). -/
section
namespace Sys2Proof.Machine

/-- A one-seed word command as one record: all three lanes get the same value (R151). -/
theorem State.acceptWords_oneSeed (s : State) (o : Opcode) (n x : Word) (nonempty : n ≠ 0) :
    s.acceptWords o n x 0 =
      { s with
        op := o.bits, len := n, seed1 := x, seed2 := 0
        a := initConstant + (n <<< 2) + x, b := initConstant + (n <<< 2) + x, c := initConstant + (n <<< 2) + x
        idx := 0, err := .none, nres := 0, phase := .run } := by
  rw [State.acceptWords_pos s o n x 0 nonempty, add_zero]

/-- A one-seed byte command as one record: all three lanes get the same value (R176). -/
theorem State.acceptBytes_oneSeed (s : State) (o : Opcode) (n x : Word) :
    s.acceptBytes o n x 0 =
      { s with
        op := o.bits, len := n, seed1 := x, seed2 := 0, pk := 0
        a := initConstant + n + x, b := initConstant + n + x, c := initConstant + n + x
        idx := 0, err := .none, nres := 0, phase := .run } := by
  rw [State.acceptBytes_eq, add_zero]

/-- Settles O7: both are `acceptTriple`. -/
theorem tripleCommandsLatchTheirLanes : Obligations.TripleCommandsLatchTheirLanes :=
  fun x y z s ready => ⟨exec_ready (.mix x y z) s ready, exec_ready (.final x y z) s ready⟩

/-- Settles O8: both are `acceptWords`, which does not raise for LEN >= 1. -/
theorem wordCommandsInitialiseTheirLanes : Obligations.WordCommandsInitialiseTheirLanes := by
  intro len seed1 seed2 s ready nonempty
  rw [exec_ready (.hashword len seed1) s ready, exec_ready (.hashword2 len seed1 seed2) s ready]
  exact ⟨congrArg _ (s.acceptWords_oneSeed .hashword len seed1 nonempty),
    congrArg _ (s.acceptWords_pos .hashword2 len seed1 seed2 nonempty)⟩

/-- Settles O9: the three are `acceptBytes`. -/
theorem byteCommandsInitialiseTheirLanes : Obligations.ByteCommandsInitialiseTheirLanes := by
  intro len seed1 seed2 s ready
  rw [exec_ready (.hashlittle len seed1) s ready, exec_ready (.hashlittle2 len seed1 seed2) s ready,
    exec_ready (.hashbig len seed1) s ready]
  exact ⟨congrArg _ (s.acceptBytes_oneSeed .hashlittle len seed1),
    congrArg _ (s.acceptBytes_eq .hashlittle2 len seed1 seed2),
    congrArg _ (s.acceptBytes_oneSeed .hashbig len seed1)⟩

/-- Settles O10: the CMD step is `acceptOneAtATime`. -/
theorem oneatatimeClearsTheAccumulator : Obligations.OneatatimeClearsTheAccumulator :=
  fun len s ready => exec_ready (.oneatatime len) s ready

end Sys2Proof.Machine
end

/-! The KEY step of the byte commands (spec/43_hashlittle.md R173; spec/20_memory.md R51), in either byte order. -/
section
namespace Sys2Proof.Machine

/-- The opcode `op` is that of a lookup3 byte command in byte order `ord`. -/
def PacksBytes (ord : ByteOrder) (op : BitVec 8) : Prop :=
  (ord = .little ∧ (op = Opcode.hashlittle.bits ∨ op = Opcode.hashlittle2.bits)) ∨
    (ord = .big ∧ op = Opcode.hashbig.bits)

theorem keyStep_of_bytes {ord : ByteOrder} {s : State} (bytes : PacksBytes ord s.op) (k : Word) :
    keyStep k s = .next (s.byteElement ord (elementByte k)) := by
  unfold keyStep
  rcases bytes with ⟨rfl, latched | latched⟩ | ⟨rfl, latched⟩
  · rw [latched, Opcode_ofBits_bits]
    rfl
  · rw [latched, Opcode_ofBits_bits]
    rfl
  · rw [latched, Opcode_ofBits_bits]
    rfl

/-- Settles O16, from `byteElement_eq` in little-endian order: the block is complete when the advanced index, which has
not wrapped, is a multiple of 12. -/
theorem littleEndianByteIsPacked : Obligations.LittleEndianByteIsPacked := by
  intro s k runs below
  have bytes : PacksBytes .little s.op := .inl ⟨rfl, runs.imp And.right And.right⟩
  refine ⟨_, _, rfl, rfl, ?_⟩
  rw [keyStep_of_bytes bytes, State.byteElement_eq, toNat_idx_succ below]
  rfl

/-- Settles O19: the KEY step of a byte command is a function of `elementByte`. -/
theorem upperPayloadBitsAreIgnoredByByteCommands : Obligations.UpperPayloadBitsAreIgnoredByByteCommands := by
  intro o bytes s latched k k' sameByte
  have sameElement : elementByte k = elementByte k' := sameByte
  rcases bytes with rfl | rfl | rfl | rfl
  · rw [keyStep_of_bytes (.inl ⟨rfl, .inl latched⟩), keyStep_of_bytes (.inl ⟨rfl, .inl latched⟩), sameElement]
  · rw [keyStep_of_bytes (.inl ⟨rfl, .inr latched⟩), keyStep_of_bytes (.inl ⟨rfl, .inr latched⟩), sameElement]
  · rw [keyStep_of_bytes (.inr ⟨rfl, latched⟩), keyStep_of_bytes (.inr ⟨rfl, latched⟩), sameElement]
  · rw [keyStep_of_oneatatime latched, keyStep_of_oneatatime latched, sameElement]

end Sys2Proof.Machine
end

/-! The FINISH step of every command as one record (spec/40_sequencer.md R107). -/
section
namespace Sys2Proof.Machine

/-- The FINISH step of the command of an opcode. -/
def finishOf (o : Opcode) (s : State) : State :=
  match o with
  | .mix => finishMix s
  | .final => finishFinal s
  | .hashword => finishHashword s
  | .hashword2 => finishHashword2 s
  | .hashlittle => finishHashlittle s
  | .hashlittle2 => finishHashlittle2 s
  | .hashbig => finishHashbig s
  | .oneatatime => finishOneatatime s

/-- The FINISH step is chosen by the latched opcode. -/
theorem finishStep_of_latched {s : State} {o : Opcode} (latched : s.op = o.bits) :
    finishStep s = .next (finishOf o s) := by
  unfold finishStep
  rw [latched, Opcode_ofBits_bits]
  cases o <;> rfl

/-- A FINISH step that goes on is that of a latched opcode. -/
theorem finishStep_next {s t : State} (h : finishStep s = .next t) :
    ∃ o : Opcode, s.op = o.bits ∧ t = finishOf o s := by
  obtain ⟨o, latched⟩ : ∃ o : Opcode, s.op = o.bits := by
    rcases finishStep_cases h with ⟨is, -⟩ | ⟨is, -⟩ | ⟨is, -⟩ | ⟨is, -⟩ | ⟨is, -⟩ | ⟨is, -⟩ | ⟨is, -⟩ | ⟨is, -⟩
    all_goals exact ⟨_, is⟩
  exact ⟨o, latched, Host.Outcome.next.inj (h.symm.trans (finishStep_of_latched latched))⟩

theorem finishOf_not_run (o : Opcode) (s : State) : (finishOf o s).phase ≠ .run := by
  cases o <;> exact Phase.noConfusion

/-- Settles O21: transform and report are those of the definitions. -/
theorem finishOfTripleAndWordCommands : Obligations.FinishOfTripleAndWordCommands := by
  rintro s - - m f rfl rfl
  exact ⟨finishStep_of_latched (o := .mix), finishStep_of_latched (o := .final),
    finishStep_of_latched (o := .hashword), finishStep_of_latched (o := .hashword2)⟩

/-- The FINISH step of HASHLITTLE and of HASHBIG (R182, R196). -/
theorem reportC_finalBytes_flushPartialWord (s : State) :
    s.flushPartialWord.finalBytes.reportC =
      { s.setLanes (final3 s.flushedLanes) with
        pk := if s.len.toNat % 4 = 0 then s.pk else 0, res0 := (final3 s.flushedLanes).c, nres := 1
        phase := .done } := by
  rw [State.finalBytes_flushPartialWord]
  rfl

/-- The FINISH step of HASHLITTLE2 (R183). -/
theorem finishHashlittle2_eq (s : State) :
    finishHashlittle2 s =
      { s.setLanes (final3 s.flushedLanes) with
        pk := if s.len.toNat % 4 = 0 then s.pk else 0, res0 := (final3 s.flushedLanes).c
        res1 := (final3 s.flushedLanes).b, nres := 2, phase := .done } := by
  rw [finishHashlittle2, State.finalBytes_flushPartialWord]
  rfl

/-- Settles O22, from the record of flush and `final3`; ONEATATIME from its own. -/
theorem finishOfByteCommands : Obligations.FinishOfByteCommands := by
  rintro s - - p f rfl rfl
  refine ⟨?_, fun latched => ?_, fun latched => ?_⟩
  · rintro (latched | latched)
    · rw [finishStep_of_latched (o := .hashlittle) latched]
      exact congrArg _ (reportC_finalBytes_flushPartialWord s)
    · rw [finishStep_of_latched (o := .hashbig) latched]
      exact congrArg _ (reportC_finalBytes_flushPartialWord s)
  · rw [finishStep_of_latched (o := .hashlittle2) latched]
    exact congrArg _ (finishHashlittle2_eq s)
  · rw [finishStep_of_oneatatime latched]
    exact congrArg _ (finishOneatatime_eq s)

end Sys2Proof.Machine
end

/-! What a step can do to the phase (spec/10_state.md R24; spec/70_reset_and_hazards.md R250), and what asserted reset
leaves behind. -/
section
namespace Sys2Proof.Machine

/-- The block's step keeps the phase, completes a command whose elements are consumed, or accepts a descriptor. -/
theorem blockStep_phase {s t : State} (h : blockStep s = .next t) :
    t.phase = s.phase ∨ (s.phase = .run ∧ s.idx = s.len ∧ t.phase = .done) ∨
      (s.phase ≠ .run ∧ s.cmdChannel ≠ [] ∧ (t.phase = .run ∨ t.phase = .err)) := by
  rcases blockStep_cases s with ⟨runs, consumed, finish⟩ | ⟨k, ks, -, -, -, key⟩ | ⟨d, ds, ready, offered, cmd⟩ |
    ⟨waits, -⟩
  · obtain ⟨_, _, _, _, _, _, _, rfl, -⟩ := finishStep_writes (finish.symm.trans h)
    exact .inr (.inl ⟨runs, consumed, rfl⟩)
  · obtain ⟨_, _, _, rfl⟩ := keyStep_writes (key.symm.trans h)
    exact .inl rfl
  · refine .inr (.inr ⟨ready, by simp [offered], ?_⟩)
    exact (cmdStep_err (s := s.setCmdChannel ds) ready (cmd.symm.trans h)).imp And.left And.left
  · obtain rfl := Host.Outcome.next.inj (waits.symm.trans h)
    exact .inl rfl

/-- Settles O34, from the three kinds of turn. -/
theorem phaseChangesOnlyByItsSteps : Obligations.PhaseChangesOnlyByItsSteps := by
  intro s t h
  rcases step_turns h with ⟨ms, turn, block⟩ | reset | ⟨ms, ds, ks, rfl⟩
  · rcases blockStep_phase block with kept | ⟨runs, consumed, done⟩ | ⟨ready, offered, entered⟩
    · exact .inl kept
    · exact .inr (.inr (.inl ⟨runs, consumed, ⟨ms, turn⟩, done⟩))
    · exact .inr (.inr (.inr ⟨ready, offered, ⟨ms, turn⟩, entered⟩))
  · obtain ⟨ms, -, resets⟩ := step_of_assertReset reset
    obtain rfl := Host.Outcome.next.inj (resets.symm.trans h)
    exact .inr (.inl ⟨reset, rfl⟩)
  · exact .inl rfl

/-- Reset alone gives IDLE, and RUN is left by reset or by completing the command. -/
theorem step_phase_idle_or_left {s t : State} (h : step s = .next t) :
    (t.phase = .idle → s.phase = .idle ∨ s.host.head? = some .assertReset) ∧
      (s.phase = .run → t.phase ≠ .run → s.host.head? = some .assertReset ∨ (s.idx = s.len ∧ t.phase = .done)) := by
  rcases phaseChangesOnlyByItsSteps s t h with kept | ⟨reset, -⟩ | ⟨-, consumed, -, done⟩ | ⟨ready, -, -, entered⟩
  · rw [kept]
    exact ⟨.inl, fun runs left => absurd runs left⟩
  · exact ⟨fun _ => .inr reset, fun _ _ => .inl reset⟩
  · exact ⟨fun idle => (by cases done.symm.trans idle), fun _ _ => .inr ⟨consumed, done⟩⟩
  · refine ⟨fun idle => ?_, fun runs => absurd runs ready⟩
    rcases entered with runs | fails
    · cases runs.symm.trans idle
    · cases fails.symm.trans idle

/-- STATUS reads 0 after reset (R28). -/
theorem readStatus_applyReset (s : State) : readStatus s.applyReset = 0 := by
  have fields : readStatus s.applyReset = (0 : BitVec 25) ++ (0 : BitVec 2) ++ (0 : BitVec 3) ++ (0 : BitVec 2) := rfl
  rw [fields]
  decide

/-- Settles O45: the state after reset is `applyReset`, whose visible registers are written out. -/
theorem assertedResetAbandonsTheCommand : Obligations.AssertedResetAbandonsTheCommand := by
  refine ⟨fun s ms host => ?_, fun s t h => step_phase_idle_or_left h⟩
  refine ⟨(s.setHost ms).applyReset, step_of_move host, rfl, rfl, rfl, rfl, rfl, rfl, rfl, rfl, rfl, rfl,
    readStatus_applyReset _, fun k => ?_, rfl, rfl, rfl⟩
  have idle : (s.setHost ms).applyReset.phase ≠ .done := Phase.noConfusion
  exact readResult_of_not_done k idle

end Sys2Proof.Machine
end

/-! What the host can read, and when it stays the same (spec/10_state.md R30, R33; spec/40_sequencer.md R104, R108;
spec/70_reset_and_hazards.md R254). -/
section
namespace Sys2Proof.Machine

/-- Settles O46: NRES is at most 3, so the index below it names one of the three result registers. -/
theorem resultWordsAreReadableOnlyWhenValid : Obligations.ResultWordsAreReadableOnlyWhenValid := by
  intro s k
  refine ⟨fun valid => ⟨s.resultWord k, if_pos valid, ?_⟩, fun invalid => if_neg invalid⟩
  have atMostThree : k < 3 := by have := s.nres.isLt; omega
  match k, atMostThree with
  | 0, _ => rfl
  | 1, _ => rfl
  | 2, _ => rfl

/-- The host reads the same of `t` as of `s`: STATUS is made of phase, error and number of results, and a result word
needs phase and number. -/
theorem reads_congr {s t : State} (phase : t.phase = s.phase) (err : t.err = s.err) (nres : t.nres = s.nres)
    (res0 : t.res0 = s.res0) (res1 : t.res1 = s.res1) (res2 : t.res2 = s.res2) :
    readStatus t = readStatus s ∧ ∀ k, readResult k t = readResult k s := by
  refine ⟨by rw [readStatus_eq, readStatus_eq, phase, err, nres], fun k => ?_⟩
  unfold readResult State.resultWord
  rw [phase, nres, res0, res1, res2]

/-- In RUN a step that is neither FINISH nor reset writes the lanes, `h`, `pk`, `idx`, the channels and the host's
further moves only. -/
theorem step_writes_of_run {s t : State} (h : step s = .next t) (runs : s.phase = .run)
    (notFinish : ¬ (s.idx = s.len ∧ ∃ ms, s.BlockTurn ms)) (notReset : s.host.head? ≠ some .assertReset) :
    ∃ l x p i ds ks ms, t = { s.setLanes l with
      h := x, pk := p, idx := i, cmdChannel := ds, keyChannel := ks, host := ms } := by
  rcases step_turns h with ⟨ms, turn, block⟩ | reset | ⟨ms, ds, ks, rfl⟩
  · rcases blockStep_cases (s.setHost ms) with ⟨-, consumed, -⟩ | ⟨k, ks, -, -, -, key⟩ | ⟨d, ds, ready, -⟩ | ⟨waits, -⟩
    · exact absurd ⟨consumed, ms, turn⟩ notFinish
    · obtain ⟨l, x, p, rfl⟩ := keyStep_writes (key.symm.trans block)
      exact ⟨l, x, p, _, _, _, _, rfl⟩
    · exact absurd runs ready
    · obtain rfl := Host.Outcome.next.inj (waits.symm.trans block)
      exact ⟨s.lanes, _, _, _, _, _, _, rfl⟩
  · exact absurd reset notReset
  · exact ⟨s.lanes, _, _, _, _, _, _, rfl⟩

/-- Settles O36: none of the registers that such a step writes can be read. -/
theorem keyStepsAreInvisibleInStatus : Obligations.KeyStepsAreInvisibleInStatus := by
  intro s t h runs notFinish notReset
  obtain ⟨l, x, p, i, ds, ks, ms, rfl⟩ := step_writes_of_run h runs notFinish notReset
  obtain ⟨status, words⟩ := reads_congr (s := s) (t := { s.setLanes l with
    h := x, pk := p, idx := i, cmdChannel := ds, keyChannel := ks, host := ms }) rfl rfl rfl rfl rfl rfl
  exact ⟨status, rfl, rfl, rfl, rfl, rfl, rfl, words⟩

/-- In DONE a step that accepts no descriptor and is not reset writes the channels and the host's further moves only. -/
theorem step_writes_of_done {s t : State} (h : step s = .next t) (done : s.phase = .done)
    (notReset : s.host.head? ≠ some .assertReset)
    (notCmd : s.cmdChannel = [] ∨ ∃ m ms, s.host = m :: ms ∧ m ≠ .proceed) :
    ∃ ds ks ms, t = { s with cmdChannel := ds, keyChannel := ks, host := ms } := by
  have notRunning : s.phase ≠ .run := by rw [done]; exact Phase.noConfusion
  rcases step_turns h with ⟨ms, turn, -⟩ | reset | ⟨ms, ds, ks, rfl⟩
  · have noOffer : s.cmdChannel = [] := by
      rcases notCmd with empty | ⟨m, ms', host, moves⟩
      · exact empty
      · rcases turn with proceeds | ⟨ended, -⟩
        · cases host.symm.trans proceeds
          exact absurd rfl moves
        · cases host.symm.trans ended
    obtain rfl := Host.Outcome.next.inj ((step_wait turn (.inr ⟨notRunning, noOffer⟩)).symm.trans h)
    exact ⟨_, _, _, rfl⟩
  · exact absurd reset notReset
  · exact ⟨_, _, _, rfl⟩

/-- Settles O37: such a step writes nothing that the host can read. -/
theorem resultsLastUntilTheNextCommand : Obligations.ResultsLastUntilTheNextCommand := by
  intro s t h done notReset notCmd
  obtain ⟨ds, ks, ms, rfl⟩ := step_writes_of_done h done notReset notCmd
  exact ⟨done, reads_congr (s := s) (t := { s with cmdChannel := ds, keyChannel := ks, host := ms })
    rfl rfl rfl rfl rfl rfl⟩

end Sys2Proof.Machine
end

/-! Which commands write `h`, the lanes and `pk` (spec/10_state.md R21, R22, R31). -/
section
namespace Sys2Proof.Machine

/-- From `s` to `t`, `h`, the lanes and `pk` were written by their own commands only, the opcode being that of `t`. -/
def WritesOwnRegisters (s t : State) : Prop :=
  (t.op ≠ Opcode.oneatatime.bits → t.h = s.h) ∧
    (t.op = Opcode.oneatatime.bits → t.lanes = s.lanes) ∧
    (t.op ≠ Opcode.hashlittle.bits → t.op ≠ Opcode.hashlittle2.bits → t.op ≠ Opcode.hashbig.bits → t.pk = s.pk)

theorem writesOwnRegisters_of_kept {s t : State} (h : t.h = s.h) (lanes : t.lanes = s.lanes) (pk : t.pk = s.pk) :
    WritesOwnRegisters s t :=
  ⟨fun _ => h, fun _ => lanes, fun _ _ _ => pk⟩

/-- MIX, FINAL and the word commands write the lanes and neither `h` nor `pk`. -/
theorem writesOwnRegisters_of_lanes {s t : State} (op : t.op ≠ Opcode.oneatatime.bits) (h : t.h = s.h)
    (pk : t.pk = s.pk) : WritesOwnRegisters s t :=
  ⟨fun _ => h, fun is => absurd is op, fun _ _ _ => pk⟩

theorem not_packsBytes_oneatatime (ord : ByteOrder) : ¬ PacksBytes ord Opcode.oneatatime.bits := by
  unfold PacksBytes
  cases ord
  · decide
  · decide

/-- The lookup3 byte commands write the lanes and `pk`, and not `h`. -/
theorem writesOwnRegisters_of_bytes {ord : ByteOrder} {s t : State} (bytes : PacksBytes ord t.op) (h : t.h = s.h) :
    WritesOwnRegisters s t := by
  refine ⟨fun _ => h, fun latched => ?_, fun notLittle notLittle2 notBig => ?_⟩
  · rw [latched] at bytes
    exact absurd bytes (not_packsBytes_oneatatime ord)
  · rcases bytes with ⟨-, little | little2⟩ | ⟨-, big⟩
    · exact absurd little notLittle
    · exact absurd little2 notLittle2
    · exact absurd big notBig

/-- ONEATATIME writes `h` and neither the lanes nor `pk`. -/
theorem writesOwnRegisters_of_oneatatime {s t : State} (op : t.op = Opcode.oneatatime.bits)
    (lanes : t.lanes = s.lanes) (pk : t.pk = s.pk) : WritesOwnRegisters s t :=
  ⟨fun other => absurd op other, fun _ => lanes, fun _ _ _ => pk⟩

theorem State.acceptWords_h (s : State) (o : Opcode) (n x y : Word) : (s.acceptWords o n x y).h = s.h := by
  obtain ⟨_, _, _, _, accepts⟩ := s.acceptWords_writes o n x y
  rw [accepts]
  rfl

theorem State.acceptWords_pk (s : State) (o : Opcode) (n x y : Word) : (s.acceptWords o n x y).pk = s.pk := by
  obtain ⟨_, _, _, _, accepts⟩ := s.acceptWords_writes o n x y
  rw [accepts]
  rfl

theorem State.acceptWords_op (s : State) (o : Opcode) (n x y : Word) : (s.acceptWords o n x y).op = o.bits := by
  obtain ⟨_, _, _, _, accepts⟩ := s.acceptWords_writes o n x y
  rw [accepts]

theorem acceptInstr_writesOwnRegisters (i : Instr) (s : State) : WritesOwnRegisters s (acceptInstr i s) := by
  cases i with
  | mix => exact writesOwnRegisters_of_lanes (show Opcode.mix.bits ≠ Opcode.oneatatime.bits by decide) rfl rfl
  | final => exact writesOwnRegisters_of_lanes (show Opcode.final.bits ≠ Opcode.oneatatime.bits by decide) rfl rfl
  | hashword n x =>
    exact writesOwnRegisters_of_lanes (by rw [acceptInstr, State.acceptWords_op]; decide)
      (s.acceptWords_h _ _ _ _) (s.acceptWords_pk _ _ _ _)
  | hashword2 n x y =>
    exact writesOwnRegisters_of_lanes (by rw [acceptInstr, State.acceptWords_op]; decide)
      (s.acceptWords_h _ _ _ _) (s.acceptWords_pk _ _ _ _)
  | hashlittle => exact writesOwnRegisters_of_bytes (.inl ⟨rfl, .inl rfl⟩) rfl
  | hashlittle2 => exact writesOwnRegisters_of_bytes (.inl ⟨rfl, .inr rfl⟩) rfl
  | hashbig => exact writesOwnRegisters_of_bytes (.inr ⟨rfl, rfl⟩) rfl
  | oneatatime => exact writesOwnRegisters_of_oneatatime rfl rfl rfl

theorem keyStep_writesOwnRegisters {k : Word} {s t : State} (h : keyStep k s = .next t) : WritesOwnRegisters s t := by
  rcases keyStep_cases h with ⟨latched, rfl⟩ | ⟨latched, rfl⟩ | ⟨latched, rfl⟩ | ⟨latched, rfl⟩
  · rw [State.wordElement_eq]
    refine writesOwnRegisters_of_lanes ?_ rfl rfl
    rcases latched with latched | latched
    · exact fun is => absurd (latched.symm.trans is) (by decide)
    · exact fun is => absurd (latched.symm.trans is) (by decide)
  · rw [State.byteElement_eq]
    exact writesOwnRegisters_of_bytes (.inl ⟨rfl, latched⟩) rfl
  · rw [State.byteElement_eq]
    exact writesOwnRegisters_of_bytes (.inr ⟨rfl, latched⟩) rfl
  · exact writesOwnRegisters_of_oneatatime latched rfl rfl

theorem finishStep_writesOwnRegisters {s t : State} (h : finishStep s = .next t) : WritesOwnRegisters s t := by
  have notOneatatime {o : Opcode} (latched : s.op = o.bits) (other : o.bits ≠ Opcode.oneatatime.bits) :
      s.op ≠ Opcode.oneatatime.bits := latched ▸ other
  rcases finishStep_cases h with ⟨latched, rfl⟩ | ⟨latched, rfl⟩ | ⟨latched, rfl⟩ | ⟨latched, rfl⟩ | ⟨latched, rfl⟩ |
    ⟨latched, rfl⟩ | ⟨latched, rfl⟩ | ⟨latched, rfl⟩
  · exact writesOwnRegisters_of_lanes (notOneatatime latched (by decide)) rfl rfl
  · exact writesOwnRegisters_of_lanes (notOneatatime latched (by decide)) rfl rfl
  · exact writesOwnRegisters_of_lanes (notOneatatime latched (by decide)) rfl rfl
  · exact writesOwnRegisters_of_lanes (notOneatatime latched (by decide)) rfl rfl
  · rw [finishHashlittle, reportC_finalBytes_flushPartialWord]
    exact writesOwnRegisters_of_bytes (.inl ⟨rfl, .inl latched⟩) rfl
  · rw [finishHashlittle2_eq]
    exact writesOwnRegisters_of_bytes (.inl ⟨rfl, .inr latched⟩) rfl
  · rw [finishHashbig, reportC_finalBytes_flushPartialWord]
    exact writesOwnRegisters_of_bytes (.inr ⟨rfl, latched⟩) rfl
  · rw [finishOneatatime_eq]
    exact writesOwnRegisters_of_oneatatime latched rfl rfl

theorem blockStep_writesOwnRegisters {s t : State} (h : blockStep s = .next t) : WritesOwnRegisters s t := by
  rcases blockStep_cases s with ⟨-, -, finish⟩ | ⟨k, ks, -, -, -, key⟩ | ⟨d, ds, ready, -, cmd⟩ | ⟨waits, -⟩
  · exact finishStep_writesOwnRegisters (finish.symm.trans h)
  · exact keyStep_writesOwnRegisters (s := s.setKeyChannel ks) (key.symm.trans h)
  · rcases cmdStep_cases (s := s.setCmdChannel ds) ready (cmd.symm.trans h) with ⟨i, rfl⟩ | rfl
    · exact acceptInstr_writesOwnRegisters i (s.setCmdChannel ds)
    · exact writesOwnRegisters_of_kept rfl rfl rfl
  · obtain rfl := Host.Outcome.next.inj (waits.symm.trans h)
    exact writesOwnRegisters_of_kept rfl rfl rfl

/-- Settles O38, from the block's step; a move of the host writes no register. -/
theorem registersAreWrittenByTheirCommandsOnly : Obligations.RegistersAreWrittenByTheirCommandsOnly := by
  intro s t h notReset
  rcases step_turns h with ⟨ms, -, block⟩ | reset | ⟨ms, ds, ks, rfl⟩
  · exact blockStep_writesOwnRegisters (s := s.setHost ms) block
  · exact absurd reset notReset
  · exact writesOwnRegisters_of_kept rfl rfl rfl

end Sys2Proof.Machine
end

/-! Runs of the machine, and the run of a command that lacks beats (spec/70_reset_and_hazards.md R256). -/
section
namespace Sys2Proof.Machine

theorem runs_zero_iff {s t : State} : s.Runs 0 t ↔ s = t :=
  ⟨Host.Outcome.next.inj, congrArg _⟩

theorem run_succ_of_next (M : Host.Core) {s t : M.State} (k : Nat) (h : M.step s = .next t) :
    M.run (k + 1) s = M.run k t := by
  rw [Host.Core.run, h]

/-- The first step of a run that ends in a state goes on. -/
theorem step_next_of_run_succ (M : Host.Core) {s u : M.State} {k : Nat} (runs : M.run (k + 1) s = .next u) :
    ∃ t, M.step s = .next t ∧ M.run k t = .next u := by
  rw [Host.Core.run] at runs
  cases h : M.step s with
  | next t => exact ⟨t, rfl, by rwa [h] at runs⟩
  | fault r => rw [h] at runs; cases runs
  | refused r => rw [h] at runs; cases runs

theorem runs_succ_iff {k : Nat} {s u : State} : s.Runs (k + 1) u ↔ ∃ t, step s = .next t ∧ t.Runs k u :=
  ⟨step_next_of_run_succ Sys2Proof.core,
    fun ⟨_, h, runs⟩ => (run_succ_of_next Sys2Proof.core k h).trans runs⟩

theorem runs_succ {k : Nat} {s t u : State} (h : step s = .next t) (runs : t.Runs k u) : s.Runs (k + 1) u :=
  runs_succ_iff.2 ⟨t, h, runs⟩

/-- Settles O33, by induction on the number of steps: each takes a beat while one is offered, and waits then. -/
theorem starvedCommandStaysRunning : Obligations.StarvedCommandStaysRunning := by
  intro s k
  induction k generalizing s with
  | zero =>
    intro t runs undisturbed lacks stays
    obtain rfl := runs_zero_iff.1 stays
    exact ⟨runs, rfl, rfl, by bv_omega, by simp⟩
  | succ k ih =>
    intro u runs undisturbed lacks goes
    obtain ⟨t, h, goes⟩ := runs_succ_iff.1 goes
    have turn : s.BlockTurn [] := .inr ⟨undisturbed, rfl⟩
    have below : s.idx < s.len := by bv_omega
    cases offered : s.keyChannel with
    | nil =>
      have waits : step s = .next { s with host := [] } :=
        step_wait turn (.inl ⟨runs, BitVec.ne_of_lt below, .inl offered⟩)
      obtain rfl := Host.Outcome.next.inj (waits.symm.trans h)
      have later := ih { s with host := [] } u runs rfl lacks goes
      simpa [offered] using later
    | cons w ws =>
      obtain ⟨l, x, p, written⟩ := keyStep_writes ((step_key turn runs below offered).symm.trans h)
      have phase : t.phase = .run := by rw [written]; exact runs
      have idx : t.idx.toNat = s.idx.toNat + 1 := by rw [written]; exact toNat_idx_succ below
      have len : t.len = s.len := by rw [written]; rfl
      have keys : t.keyChannel = ws := by rw [written]; rfl
      have nres : t.nres = s.nres := by rw [written]; rfl
      have cmd : t.cmdChannel = s.cmdChannel := by rw [written]; rfl
      have host : t.Undisturbed := by rw [written]; rfl
      rw [offered, List.length_cons] at lacks
      have stillLacks : t.idx.toNat + t.keyChannel.length < t.len.toNat := by
        rw [idx, keys, len]
        omega
      obtain ⟨stillRuns, nresLater, cmdLater, stillBelow, taken⟩ := ih t u phase host stillLacks goes
      refine ⟨stillRuns, nresLater.trans nres, cmdLater.trans cmd, stillBelow, ?_⟩
      rw [taken, idx, keys, List.length_cons]
      omega

end Sys2Proof.Machine
end

/-! The mixer's data path (spec/41_mixer.md R130, R131, R133): rotations compose, the assignments in their order, and
every round can be undone. -/
section
namespace Sys2Proof.Machine

/-! ### Rotations -/

/-- Settles O49, bit by bit: the bit of index i is moved to (i + j + k) mod 32 on either side. -/
theorem rotationsCompose : Obligations.RotationsCompose := by
  intro x j k hj hk hjk
  refine BitVec.eq_of_getLsbD_eq fun n hn => ?_
  obtain ⟨i, hi, rfl⟩ : ∃ i, i < 32 ∧ (i + (j + k) % 32) % 32 = n :=
    ⟨(n + (32 - (j + k) % 32)) % 32, Nat.mod_lt _ (by decide), by omega⟩
  have twoSteps : (i + (j + k) % 32) % 32 = ((i + j) % 32 + k) % 32 := by omega
  rw [getLsbD_rot_add_mod x _ hjk i hi, twoSteps,
    getLsbD_rot_add_mod _ k hk _ (Nat.mod_lt _ (by decide)), getLsbD_rot_add_mod x j hj i hi]

/-- Settles O50: the definitions of the rounds are these assignments. -/
theorem mixAndFinalPerformTheirAssignments : Obligations.MixAndFinalPerformTheirAssignments :=
  ⟨fun _ _ _ => rfl, fun _ _ _ => rfl⟩

/-! ### Every round of `mix` and of `final` can be undone -/

/-- One round of `mix` on the lanes (a, b, c), which are left in the order in which the next round takes them. -/
def mixTurn (k : Nat) (bound : 0 < k ∧ k < 32) (l : Lanes) : Lanes :=
  { a := l.b, b := (mixRound k l.a l.c l.b bound).2, c := (mixRound k l.a l.c l.b bound).1 }

/-- The round in reverse: what was added to the source is taken away, then the target is restored from it. -/
def unmixTurn (k : Nat) (bound : 0 < k ∧ k < 32) (l : Lanes) : Lanes :=
  let s := l.b - l.a
  { a := (l.c ^^^ rot s k bound) + s, b := l.a, c := s }

theorem mixTurn_bijective (k : Nat) (bound : 0 < k ∧ k < 32) : Function.Bijective (mixTurn k bound) := by
  refine Function.bijective_iff_has_inverse.2 ⟨unmixTurn k bound, fun l => ?_, fun l => ?_⟩
  · simp [mixTurn, unmixTurn, mixRound]
  · simp [mixTurn, unmixTurn, mixRound]

/-- `mix` is six rounds of one shape, after which the lanes stand in their order again. -/
theorem mix3_eq_turns : mix3 = mixTurn 4 (by decide) ∘ mixTurn 19 (by decide) ∘ mixTurn 16 (by decide) ∘
    mixTurn 8 (by decide) ∘ mixTurn 6 (by decide) ∘ mixTurn 4 (by decide) := rfl

theorem mix3_bijective : Function.Bijective mix3 := by
  rw [mix3_eq_turns]
  exact (mixTurn_bijective 4 _).comp ((mixTurn_bijective 19 _).comp ((mixTurn_bijective 16 _).comp
    ((mixTurn_bijective 8 _).comp ((mixTurn_bijective 6 _).comp (mixTurn_bijective 4 _)))))

/-- One step of `final` on (target, source, third), which are left in the order in which the next step takes them. -/
def finalTurn (k : Nat) (bound : 0 < k ∧ k < 32) (l : Lanes) : Lanes :=
  { a := l.c, b := finalRound k l.a l.b bound, c := l.b }

/-- The step in reverse: source and third lane are unchanged in it, so the target can be restored. -/
def unfinalTurn (k : Nat) (bound : 0 < k ∧ k < 32) (l : Lanes) : Lanes :=
  { a := (l.b + rot l.c k bound) ^^^ l.c, b := l.c, c := l.a }

theorem finalTurn_bijective (k : Nat) (bound : 0 < k ∧ k < 32) : Function.Bijective (finalTurn k bound) := by
  refine Function.bijective_iff_has_inverse.2 ⟨unfinalTurn k bound, fun l => ?_, fun l => ?_⟩
  · simp [finalTurn, unfinalTurn, finalRound]
  · simp [finalTurn, unfinalTurn, finalRound]

/-- (c, b, a): the order in which the first step of `final` takes the lanes. -/
def Lanes.reverse (l : Lanes) : Lanes := { a := l.c, b := l.b, c := l.a }

/-- (a, c, b): the order in which the last step of `final` leaves them. -/
def Lanes.swapBC (l : Lanes) : Lanes := { a := l.a, b := l.c, c := l.b }

theorem Lanes.reverse_bijective : Function.Bijective Lanes.reverse :=
  Function.Involutive.bijective fun _ => rfl

theorem Lanes.swapBC_bijective : Function.Bijective Lanes.swapBC :=
  Function.Involutive.bijective fun _ => rfl

/-- `final` is seven steps of one shape between two permutations of the lanes. -/
theorem final3_eq_turns : final3 = Lanes.swapBC ∘ finalTurn 24 (by decide) ∘ finalTurn 14 (by decide) ∘
    finalTurn 4 (by decide) ∘ finalTurn 16 (by decide) ∘ finalTurn 25 (by decide) ∘ finalTurn 11 (by decide) ∘
    finalTurn 14 (by decide) ∘ Lanes.reverse := rfl

theorem final3_bijective : Function.Bijective final3 := by
  rw [final3_eq_turns]
  exact Lanes.swapBC_bijective.comp ((finalTurn_bijective 24 _).comp ((finalTurn_bijective 14 _).comp
    ((finalTurn_bijective 4 _).comp ((finalTurn_bijective 16 _).comp ((finalTurn_bijective 25 _).comp
    ((finalTurn_bijective 11 _).comp ((finalTurn_bijective 14 _).comp Lanes.reverse_bijective)))))))

/-- Settles O51: both are compositions of rounds that can be undone. -/
theorem mixAndFinalAreBijections : Obligations.MixAndFinalAreBijections :=
  ⟨mix3_bijective, final3_bijective⟩

end Sys2Proof.Machine
end

/-! The pack register of the byte commands (spec/10_state.md R31; spec/43_hashlittle.md R173 to R175;
spec/44_hashbig.md R193): it has zeros where no byte was placed yet, so placing a byte is adding it. -/
section
namespace Sys2Proof.Machine

/-! ### A byte at its position -/

/-- Bit `i` of a word belongs to a byte of position `j` or later. -/
def Unfilled (ord : ByteOrder) (j i : Nat) : Prop :=
  match ord with
  | .little => 8 * j ≤ i
  | .big => i < 32 - 8 * j

/-- The word being packed, with `j` bytes received, has zeros wherever no byte was placed yet. -/
def PackClean (ord : ByteOrder) (j : Nat) (p : Word) : Prop := ∀ i, Unfilled ord j i → p.getLsbD i = false

theorem getLsbD_placeByte (ord : ByteOrder) (j : Nat) (x : Byte) (i : Nat) :
    (placeByte ord j x).getLsbD i =
      (decide (i < 32) && !decide (i < byteShift ord j) && x.getLsbD (i - byteShift ord j)) := by
  rw [placeByte, BitVec.getLsbD_shiftLeft, zextByte, BitVec.getLsbD_setWidth]
  by_cases inWord : i < 32
  · have shifted : i - byteShift ord j < 32 := by omega
    simp [inWord, shifted]
  · simp [inWord]

/-- A byte does not touch the bytes of the positions before it. -/
theorem placeByte_of_filled {ord : ByteOrder} {j i : Nat} (x : Byte) (inside : j < 4) (filled : ¬ Unfilled ord j i) :
    (placeByte ord j x).getLsbD i = false := by
  rw [getLsbD_placeByte]
  cases ord with
  | little =>
    have below : i < byteShift .little j := Nat.lt_of_not_le filled
    simp [below]
  | big =>
    have above : x.getLsbD (i - byteShift .big j) = false :=
      BitVec.getLsbD_of_ge _ _ (by simp only [Unfilled, byteShift] at *; omega)
    simp [above]

/-- A byte does not touch the bytes of the positions after it. -/
theorem placeByte_of_unfilled {ord : ByteOrder} {j i : Nat} (x : Byte) (unfilled : Unfilled ord (j + 1) i) :
    (placeByte ord j x).getLsbD i = false := by
  rw [getLsbD_placeByte]
  cases ord with
  | little =>
    have above : x.getLsbD (i - byteShift .little j) = false :=
      BitVec.getLsbD_of_ge _ _ (by simp only [Unfilled, byteShift] at *; omega)
    simp [above]
  | big =>
    have below : i < byteShift .big j := by simp only [Unfilled, byteShift] at *; omega
    simp [below]

theorem unfilled_of_succ {ord : ByteOrder} {j i : Nat} (later : Unfilled ord (j + 1) i) : Unfilled ord j i := by
  cases ord with
  | little => simp only [Unfilled] at *; omega
  | big => simp only [Unfilled] at *; omega

/-! ### The word being packed -/

theorem packClean_zero (ord : ByteOrder) (j : Nat) : PackClean ord j 0 := fun i _ => BitVec.getLsbD_zero (i := i)

/-- Before the first byte of a word the pack register is 0. -/
theorem eq_zero_of_packClean {ord : ByteOrder} {p : Word} (clean : PackClean ord 0 p) : p = 0 := by
  refine BitVec.eq_of_getLsbD_eq fun i inWord => (clean i ?_).trans BitVec.getLsbD_zero.symm
  cases ord with
  | little => exact Nat.zero_le i
  | big => exact inWord

/-- Placing the byte of position `j` leaves zeros in the positions after it. -/
theorem packClean_or_placeByte {ord : ByteOrder} {j : Nat} {p : Word} (clean : PackClean ord j p) (x : Byte) :
    PackClean ord (j + 1) (p ||| placeByte ord j x) := by
  intro i unfilled
  rw [BitVec.getLsbD_or, clean i (unfilled_of_succ unfilled), placeByte_of_unfilled x unfilled]
  rfl

/-- Placing a byte is adding it, because its place was zero (R175). -/
theorem or_placeByte_eq_add {ord : ByteOrder} {j : Nat} {p : Word} (inside : j < 4) (clean : PackClean ord j p)
    (x : Byte) : p ||| placeByte ord j x = p + placeByte ord j x := by
  refine (BitVec.add_eq_or_of_and_eq_zero _ _ (BitVec.eq_of_getLsbD_eq fun i _ => ?_)).symm
  rw [BitVec.getLsbD_and, BitVec.getLsbD_zero]
  by_cases unfilled : Unfilled ord j i
  · rw [clean i unfilled, Bool.false_and]
  · rw [placeByte_of_filled x inside unfilled, Bool.and_false]

theorem placeByte_zero (ord : ByteOrder) (j : Nat) : placeByte ord j 0#8 = 0#32 := by
  simp [placeByte, zextByte]

/-- A packed word is the sum of its bytes, each at its position (R175). -/
theorem packWord_eq_add (ord : ByteOrder) (b0 b1 b2 b3 : Byte) :
    packWord ord b0 b1 b2 b3 =
      placeByte ord 0 b0 + placeByte ord 1 b1 + placeByte ord 2 b2 + placeByte ord 3 b3 := by
  have clean0 : PackClean ord 0 0 := packClean_zero ord 0
  have clean1 := packClean_or_placeByte clean0 b0
  have clean2 := packClean_or_placeByte clean1 b1
  have clean3 := packClean_or_placeByte clean2 b2
  have placed : packWord ord b0 b1 b2 b3 =
      0 ||| placeByte ord 0 b0 ||| placeByte ord 1 b1 ||| placeByte ord 2 b2 ||| placeByte ord 3 b3 := by
    cases ord with
    | little => simp [packWord, packLe, placeByte, byteShift]
    | big => simp [packWord, packBe, placeByte, byteShift]
  rw [placed, or_placeByte_eq_add (by decide) clean3, or_placeByte_eq_add (by decide) clean2,
    or_placeByte_eq_add (by decide) clean1, or_placeByte_eq_add (by decide) clean0]
  simp

/-! ### The two number forms of the invariant -/

theorem packClean_little_iff (j : Nat) (p : Word) : PackClean .little j p ↔ p.toNat < 2 ^ (8 * j) := by
  constructor
  · exact fun clean => Nat.lt_pow_two_of_testBit _ fun i unfilled => clean i unfilled
  · exact fun small i unfilled =>
      Nat.testBit_lt_two_pow (Nat.lt_of_lt_of_le small (Nat.pow_le_pow_right (by decide) unfilled))

theorem packClean_big_iff (j : Nat) (p : Word) : PackClean .big j p ↔ p.toNat % 2 ^ (32 - 8 * j) = 0 := by
  constructor
  · refine fun clean => Nat.eq_of_testBit_eq fun i => ?_
    rw [Nat.testBit_mod_two_pow, Nat.zero_testBit]
    by_cases unfilled : i < 32 - 8 * j
    · have zero : p.toNat.testBit i = false := clean i unfilled
      simp [zero]
    · simp [unfilled]
  · intro divisible i unfilled
    have zero : (p.toNat % 2 ^ (32 - 8 * j)).testBit i = false := by rw [divisible, Nat.zero_testBit]
    have inside : i < 32 - 8 * j := unfilled
    rw [Nat.testBit_mod_two_pow, decide_eq_true inside, Bool.true_and] at zero
    exact zero

end Sys2Proof.Machine
end

/-! Bytes added one at a time, packed words, and the KEY steps of a byte command give the same lanes
(spec/43_hashlittle.md R174, R175; spec/44_hashbig.md R195, R197; spec/42_hashword.md R162). -/
section
namespace Sys2Proof.Machine

/-! ### Bytes added directly -/

/-- One byte of index `i` added at its position to the lane of its index, with `mix` when it ends a block. -/
def addByteDirectly (ord : ByteOrder) (i : Nat) (l : Lanes) (x : Byte) : Lanes :=
  let l := l.addTo (laneOfNat (i % 12 / 4)) (placeByte ord (i % 4) x)
  if (i + 1) % 12 = 0 then mix3 l else l

theorem foldBytesDirectly_cons (ord : ByteOrder) (i : Nat) (l : Lanes) (x : Byte) (rest : List Byte) :
    foldBytesDirectly ord i l (x :: rest) = foldBytesDirectly ord (i + 1) (addByteDirectly ord i l x) rest := rfl

/-- Only the index within the block of twelve counts. -/
theorem foldBytesDirectly_add_twelve (ord : ByteOrder) (i : Nat) (l : Lanes) (e : List Byte) :
    foldBytesDirectly ord (i + 12) l e = foldBytesDirectly ord i l e := by
  induction e generalizing i l with
  | nil => rfl
  | cons x rest ih =>
    have sameByte : addByteDirectly ord (i + 12) l x = addByteDirectly ord i l x := by
      have block : (i + 12) % 12 = i % 12 := by omega
      have word : (i + 12) % 4 = i % 4 := by omega
      have ends : (i + 12 + 1) % 12 = (i + 1) % 12 := by omega
      rw [addByteDirectly, addByteDirectly, block, word, ends]
    rw [foldBytesDirectly_cons, foldBytesDirectly_cons, sameByte, Nat.add_right_comm i 12 1, ih]

/-- A tail of fewer than twelve bytes: no block is completed, and a missing byte adds nothing. -/
theorem foldBytesDirectly_tail (ord : ByteOrder) (l : Lanes) (t : List Byte) (short : t.length < 12) :
    foldBytesDirectly ord 0 l t = addTail ord l t := by
  match t, short with
  | [], _ => rfl
  | [_], _ | [_, _], _ | [_, _, _], _ | [_, _, _, _], _ | [_, _, _, _, _], _ | [_, _, _, _, _, _], _
  | [_, _, _, _, _, _, _], _ | [_, _, _, _, _, _, _, _], _ | [_, _, _, _, _, _, _, _, _], _
  | [_, _, _, _, _, _, _, _, _, _], _ | [_, _, _, _, _, _, _, _, _, _, _], _ =>
    simp [foldBytesDirectly, addTail, tailWord, packWord_eq_add, placeByte_zero, laneOfNat, Lanes.addTo, add_assoc]

/-- A block of twelve bytes: three words are added and mixed. -/
theorem foldBytesDirectly_block (ord : ByteOrder) (l : Lanes) (b0 b1 b2 b3 b4 b5 b6 b7 b8 b9 b10 b11 : Byte)
    (rest : List Byte) :
    foldBytesDirectly ord 0 l (b0 :: b1 :: b2 :: b3 :: b4 :: b5 :: b6 :: b7 :: b8 :: b9 :: b10 :: b11 :: rest) =
      foldBytesDirectly ord 0
        (mix3
          { a := l.a + packWord ord b0 b1 b2 b3
            b := l.b + packWord ord b4 b5 b6 b7
            c := l.c + packWord ord b8 b9 b10 b11 })
        rest := by
  rw [← foldBytesDirectly_add_twelve ord 0 _ rest]
  simp [foldBytesDirectly, packWord_eq_add, laneOfNat, Lanes.addTo, add_assoc]

/-- Bytes that do not begin with a block are a tail. -/
theorem length_lt_of_noBlock {t : List Byte}
    (noBlock : ∀ b0 b1 b2 b3 b4 b5 b6 b7 b8 b9 b10 b11 rest,
      t = b0 :: b1 :: b2 :: b3 :: b4 :: b5 :: b6 :: b7 :: b8 :: b9 :: b10 :: b11 :: rest → False) :
    t.length < 12 := by
  iterate 12
    rcases t with _ | ⟨_, t⟩
    · simp
  exact (noBlock _ _ _ _ _ _ _ _ _ _ _ _ _ rfl).elim

/-- The first half of R175: blocks by induction, then the tail. -/
theorem foldBytesDirectly_eq_foldBytes (ord : ByteOrder) (l : Lanes) (e : List Byte) :
    foldBytesDirectly ord 0 l e = foldBytes ord l e := by
  induction l, e using foldBytes.induct ord with
  | case1 l b0 b1 b2 b3 b4 b5 b6 b7 b8 b9 b10 b11 rest ih => rw [foldBytesDirectly_block, foldBytes, ih]
  | case2 l t noBlock =>
    rw [foldBytesDirectly_tail ord l t (length_lt_of_noBlock noBlock), foldBytes]
    exact noBlock

/-! ### Whole words -/

theorem packAll_cons (ord : ByteOrder) (b0 b1 b2 b3 : Byte) (rest : List Byte) :
    packAll ord (b0 :: b1 :: b2 :: b3 :: rest) = packWord ord b0 b1 b2 b3 :: packAll ord rest := rfl

theorem length_packAll (ord : ByteOrder) (e : List Byte) : (packAll ord e).length = e.length / 4 := by
  induction e using packAll.induct with
  | case1 b0 b1 b2 b3 rest ih =>
    rw [packAll_cons, List.length_cons, ih]
    simp only [List.length_cons]
    omega
  | case2 t noWord =>
    have short : t.length < 4 := by
      iterate 4
        rcases t with _ | ⟨_, t⟩
        · simp
      exact (noWord _ _ _ _ _ rfl).elim
    rw [packAll, List.length_nil, Nat.div_eq_of_lt short]
    exact noWord

/-- A tail of whole words is added word by word. -/
theorem addTail_eq_foldWords (ord : ByteOrder) (l : Lanes) (t : List Byte) (short : t.length < 12)
    (whole : t.length % 4 = 0) : addTail ord l t = foldWords l (packAll ord t) := by
  obtain none | one | two : t.length = 0 ∨ t.length = 4 ∨ t.length = 8 := by omega
  · match t, none with
    | [], _ => rfl
  · match t, one with
    | [_, _, _, _], _ => rfl
  · match t, two with
    | [_, _, _, _, _, _, _, _], _ => rfl

/-- The loops of R156 and R181 are the same on whole words. -/
theorem foldBytes_eq_foldWords (ord : ByteOrder) (l : Lanes) (e : List Byte) (whole : e.length % 4 = 0) :
    foldBytes ord l e = foldWords l (packAll ord e) := by
  induction l, e using foldBytes.induct ord with
  | case1 l b0 b1 b2 b3 b4 b5 b6 b7 b8 b9 b10 b11 rest ih =>
    rw [foldBytes, packAll_cons, packAll_cons, packAll_cons, foldWords]
    exact ih (by simp only [List.length_cons] at whole; omega)
  | case2 l t noBlock =>
    rw [foldBytes, addTail_eq_foldWords ord l t (length_lt_of_noBlock noBlock) whole]
    exact noBlock

/-- LEN << 2 of the word command is LEN of the byte command, as 32-bit words (R151, R176). -/
theorem ofNat_div_four_shiftLeft {n : Nat} (whole : n % 4 = 0) : BitVec.ofNat 32 (n / 4) <<< 2 = BitVec.ofNat 32 n := by
  refine BitVec.eq_of_toNat_eq ?_
  rw [BitVec.toNat_shiftLeft, BitVec.toNat_ofNat, BitVec.toNat_ofNat, Nat.shiftLeft_eq]
  omega

/-- Settles O55: the same initial lanes, the same loop. -/
theorem byteAndWordHashesAgree : Obligations.ByteAndWordHashesAgree := by
  intro ord e s1 s2 whole nonempty fits
  have inDomain : ¬ ((packAll ord e).length = 0 ∨ 2 ^ 32 ≤ (packAll ord e).length) := by
    rw [length_packAll]
    omega
  rw [hashbytes2Fn, hashword2Fn, if_neg (Nat.not_le.2 fits), if_neg inDomain, length_packAll,
    ofNat_div_four_shiftLeft whole]
  simp only [foldBytes_eq_foldWords ord _ e whole]
  rfl

end Sys2Proof.Machine
end

/-! A list of KEY steps of a byte command (spec/43_hashlittle.md R173 to R175, R178; spec/44_hashbig.md R193, R194): the
lanes, with what `pk` holds added to its lane, are those of the bytes added directly. -/
section
namespace Sys2Proof.Machine

/-! ### One KEY step -/

/-- The lanes with the word being packed added to the lane of the next byte. -/
def State.unpacked (s : State) : Lanes := s.lanes.addTo (laneOfByteIndex s.idx) s.pk

/-- The pack register has zeros wherever the current word has not received its byte. -/
def State.PackedClean (s : State) (ord : ByteOrder) : Prop := PackClean ord (bytePosition s.idx) s.pk

theorem State.unpacked_of_pk_zero {s : State} (empty : s.pk = 0) : s.unpacked = s.lanes := by
  rw [State.unpacked, empty, Lanes.addTo_zero]

/-- Before the first byte of a word nothing is packed. -/
theorem State.PackedClean.pk_zero {s : State} {ord : ByteOrder} (clean : s.PackedClean ord)
    (wordStart : s.idx.toNat % 4 = 0) : s.pk = 0 := by
  rw [State.PackedClean, bytePosition, wordStart] at clean
  exact eq_zero_of_packClean clean

section ByteElement
variable {ord : ByteOrder} {s : State} (clean : s.PackedClean ord) (below : s.idx < s.len) (x : Byte)
include clean below

/-- The byte element rule keeps the pack register clean. -/
theorem byteElement_packedClean : (s.byteElement ord x).PackedClean ord := by
  have advanced := toNat_idx_succ below
  rw [State.PackedClean, State.byteElement_eq]
  change PackClean ord ((s.idx + 1).toNat % 4) (if bytePosition s.idx = 3 then 0 else _)
  by_cases full : bytePosition s.idx = 3
  · rw [if_pos full]
    exact packClean_zero ord _
  · have next : (s.idx + 1).toNat % 4 = bytePosition s.idx + 1 := by
      unfold bytePosition at *
      omega
    rw [if_neg full, next]
    exact packClean_or_placeByte clean x

/-- The byte element rule adds the byte at its position. -/
theorem byteElement_unpacked :
    (s.byteElement ord x).unpacked = addByteDirectly ord s.idx.toNat s.unpacked x := by
  have advanced := toNat_idx_succ below
  have placed : s.pk ||| placeByte ord (bytePosition s.idx) x = s.pk + placeByte ord (bytePosition s.idx) x :=
    or_placeByte_eq_add (Nat.mod_lt _ (by decide)) clean x
  have added : s.lanes.addTo (laneOfByteIndex s.idx) (s.pk + placeByte ord (bytePosition s.idx) x) =
      s.unpacked.addTo (laneOfNat (s.idx.toNat % 12 / 4)) (placeByte ord (s.idx.toNat % 4) x) :=
    (Lanes.addTo_addTo _ _ _ _).symm
  rw [State.unpacked, State.byteElement_eq, placed, addByteDirectly, ← added, advanced]
  by_cases full : bytePosition s.idx = 3
  · simp only [if_pos full, Lanes.addTo_zero]
    rfl
  · have sameLane : laneOfByteIndex (s.idx + 1) = laneOfByteIndex s.idx := by
      unfold laneOfByteIndex bytePosition at *
      congr 1
      omega
    have noBlock : ¬ (s.idx.toNat + 1) % 12 = 0 := by
      unfold bytePosition at full
      omega
    simp only [if_neg full, if_neg noBlock, sameLane]
    rfl

end ByteElement

/-- The byte element rule as a frame: it writes the lanes and `pk` and advances `idx`. -/
theorem byteElement_writes (s : State) (ord : ByteOrder) (x : Byte) :
    ∃ l p, s.byteElement ord x = { s.setLanes l with pk := p, idx := s.idx + 1 } :=
  ⟨_, _, s.byteElement_eq ord x⟩

/-! ### A list of KEY steps -/

theorem add_ofNat_succ (i : Word) (n : Nat) : i + 1 + BitVec.ofNat 32 n = i + BitVec.ofNat 32 (n + 1) := by
  rw [BitVec.ofNat_add, BitVec.add_assoc, BitVec.add_comm (BitVec.ofNat 32 n)]
  rfl

theorem toNat_add_ofNat {i : Word} {n m : Nat} (fits : i.toNat + n ≤ m) (bound : m < 2 ^ 32) :
    (i + BitVec.ofNat 32 n).toNat = i.toNat + n := by
  rw [BitVec.toNat_add, BitVec.toNat_ofNat]
  omega

theorem keySteps_of_bytes {ord : ByteOrder} (e : List Word) {s : State} (bytes : PacksBytes ord s.op)
    (clean : s.PackedClean ord) (fits : s.idx.toNat + e.length ≤ s.len.toNat) :
    ∃ t l p, keySteps e s = .next t ∧
      t = { s.setLanes l with pk := p, idx := s.idx + BitVec.ofNat 32 e.length } ∧
      t.PackedClean ord ∧ t.unpacked = foldBytesDirectly ord s.idx.toNat s.unpacked (e.map elementByte) := by
  induction e generalizing s with
  | nil =>
    have noAdvance : s.idx + BitVec.ofNat 32 0 = s.idx := BitVec.add_zero s.idx
    refine ⟨s, s.lanes, s.pk, rfl, ?_, clean, rfl⟩
    rw [List.length_nil, noAdvance]
    rfl
  | cons k ks ih =>
    rw [List.length_cons] at fits
    have below : s.idx < s.len := by bv_omega
    obtain ⟨l, p, written⟩ := byteElement_writes s ord (elementByte k)
    have idx : (s.byteElement ord (elementByte k)).idx = s.idx + 1 := by rw [written]
    have len : (s.byteElement ord (elementByte k)).len = s.len := by rw [written]; rfl
    have op : (s.byteElement ord (elementByte k)).op = s.op := by rw [written]; rfl
    have fitsLater : (s.byteElement ord (elementByte k)).idx.toNat + ks.length ≤
        (s.byteElement ord (elementByte k)).len.toNat := by
      rw [idx, len, toNat_idx_succ below]
      omega
    obtain ⟨t, l', p', steps, writtenLater, cleanLater, lanes⟩ :=
      ih (op.symm ▸ bytes) (byteElement_packedClean clean below _) fitsLater
    refine ⟨t, l', p', ?_, ?_, cleanLater, ?_⟩
    · rw [keySteps_cons ks (keyStep_of_bytes bytes k), steps]
    · rw [writtenLater, written, List.length_cons, ← add_ofNat_succ]
      rfl
    · rw [lanes, byteElement_unpacked clean below, idx, toNat_idx_succ below, List.map_cons, foldBytesDirectly_cons]

/-! ### The flush of FINISH -/

/-- When all elements are consumed the flush adds what is still packed, and leaves nothing in `pk` (R178). -/
theorem flush_of_consumed {ord : ByteOrder} {s : State} (clean : s.PackedClean ord) (consumed : s.idx = s.len) :
    s.flushedLanes = s.unpacked ∧ (if s.len.toNat % 4 = 0 then s.pk else 0) = 0 := by
  rw [State.flushedLanes, State.unpacked, consumed]
  by_cases whole : s.len.toNat % 4 = 0
  · have empty : s.pk = 0 := clean.pk_zero (consumed ▸ whole)
    rw [if_pos whole, if_pos whole, empty, Lanes.addTo_zero]
    exact ⟨rfl, rfl⟩
  · rw [if_neg whole, if_neg whole]
    exact ⟨rfl, rfl⟩

/-- Settles O54: the first half is `foldBytesDirectly_eq_foldBytes`; the second is `keySteps_of_bytes` from an empty
pack register, read where a word is complete, where it is not, and after the last byte. -/
theorem bytesMayBeAddedOneAtATime : Obligations.BytesMayBeAddedOneAtATime := by
  refine ⟨foldBytesDirectly_eq_foldBytes, fun ord s e runs start empty fits => ?_⟩
  have bytes : PacksBytes ord s.op :=
    runs.imp (And.imp_right (Or.imp And.right And.right)) (And.imp_right And.right)
  have clean : s.PackedClean ord := by rw [State.PackedClean, empty]; exact packClean_zero ord _
  obtain ⟨t, l, p, steps, written, cleanLater, lanes⟩ :=
    keySteps_of_bytes e bytes clean (by rw [start]; simpa using fits)
  have idx : t.idx.toNat = e.length := by
    have counted : t.idx = 0 + BitVec.ofNat 32 e.length := by rw [written, start]
    rw [counted, toNat_add_ofNat (m := s.len.toNat) (by simpa using fits) s.len.isLt]
    simp
  have len : t.len = s.len := by rw [written]; rfl
  rw [start, State.unpacked_of_pk_zero empty] at lanes
  refine ⟨t, _, rfl, steps, idx, fun whole => ?_, fun _ => ?_, fun all => ?_⟩
  · have nothingPacked : t.pk = 0 := cleanLater.pk_zero (idx.symm ▸ whole)
    exact ⟨(State.unpacked_of_pk_zero nothingPacked).symm.trans lanes, nothingPacked⟩
  · rw [State.unpacked, laneOfByteIndex, idx] at lanes
    exact lanes
  · have consumed : t.idx = t.len := BitVec.eq_of_toNat_eq (by rw [idx, len, all])
    obtain ⟨flushed, cleared⟩ := flush_of_consumed cleanLater consumed
    rw [State.flushPartialWord_lanes, State.flushPartialWord_pk]
    exact ⟨flushed.trans lanes, cleared⟩

end Sys2Proof.Machine
end

/-! A list of KEY steps of a word command (spec/42_hashword.md R153, R156). -/
section
namespace Sys2Proof.Machine

/-- The words added one at a time to the lane of their index, with `mix` after every third; `i` is the index of the
first (R153). -/
def foldWordsDirectly : Nat → Lanes → List Word → Lanes
  | _, l, [] => l
  | i, l, w :: rest =>
    let l := l.addTo (laneOfNat (i % 3)) w
    foldWordsDirectly (i + 1) (if (i + 1) % 3 = 0 then mix3 l else l) rest

/-- Only the index within the triple counts. -/
theorem foldWordsDirectly_add_three (i : Nat) (l : Lanes) (e : List Word) :
    foldWordsDirectly (i + 3) l e = foldWordsDirectly i l e := by
  induction e generalizing i l with
  | nil => rfl
  | cons w rest ih =>
    have ends : (i + 3 + 1) % 3 = (i + 1) % 3 := by omega
    rw [foldWordsDirectly, foldWordsDirectly, Nat.add_mod_right, ends, Nat.add_right_comm i 3 1, ih]

/-- Word by word is the loop and the tail of R156. -/
theorem foldWordsDirectly_eq_foldWords (l : Lanes) (e : List Word) : foldWordsDirectly 0 l e = foldWords l e := by
  induction l, e using foldWords.induct with
  | case1 l x y z rest ih =>
    rw [foldWords, ← ih, ← foldWordsDirectly_add_three 0 _ rest]
    rfl
  | case2 l x y => rfl
  | case3 l x => rfl
  | case4 l => rfl

theorem keyStep_of_wordCommand {s : State} (words : s.op = Opcode.hashword.bits ∨ s.op = Opcode.hashword2.bits)
    (w : Word) : keyStep w s = .next (s.wordElement w) := by
  unfold keyStep
  rcases words with latched | latched
  · rw [latched, Opcode_ofBits_bits]
    rfl
  · rw [latched, Opcode_ofBits_bits]
    rfl

theorem keySteps_of_wordCommand (e : List Word) {s : State}
    (words : s.op = Opcode.hashword.bits ∨ s.op = Opcode.hashword2.bits)
    (fits : s.idx.toNat + e.length ≤ s.len.toNat) :
    keySteps e s = .next { s.setLanes (foldWordsDirectly s.idx.toNat s.lanes e) with
      idx := s.idx + BitVec.ofNat 32 e.length } := by
  induction e generalizing s with
  | nil =>
    have noAdvance : s.idx + BitVec.ofNat 32 0 = s.idx := BitVec.add_zero s.idx
    rw [List.length_nil, noAdvance]
    rfl
  | cons w ws ih =>
    rw [List.length_cons] at fits
    have below : s.idx < s.len := by bv_omega
    have advanced := toNat_idx_succ below
    have written := s.wordElement_eq w
    have idx : (s.wordElement w).idx = s.idx + 1 := by rw [written]
    have len : (s.wordElement w).len = s.len := by rw [written]; rfl
    have op : (s.wordElement w).op = s.op := by rw [written]; rfl
    have fitsLater : (s.wordElement w).idx.toNat + ws.length ≤ (s.wordElement w).len.toNat := by
      rw [idx, len, advanced]
      omega
    rw [keySteps_cons ws (keyStep_of_wordCommand words w), ih (op.symm ▸ words) fitsLater, idx, advanced, written,
      advanced, List.length_cons, ← add_ofNat_succ, foldWordsDirectly]
    rfl

end Sys2Proof.Machine
end

/-! Running a command to its end (spec/40_sequencer.md R105 to R109): KEY steps and FINISH read and write no channel,
so a command ends in the same registers whatever is offered, and whenever. -/
section
namespace Sys2Proof.Machine

/-! ### Other offers and moves of the host -/

/-- `s` with other offers and other moves of the host. -/
def State.withHost (s : State) (ds : List Descriptor) (ks : List Word) (ms : List HostMove) : State :=
  { s with cmdChannel := ds, keyChannel := ks, host := ms }

theorem step_withHost_move (s : State) (ds : List Descriptor) (ks : List Word) (m : HostMove) (ms : List HostMove) :
    step (s.withHost ds ks (m :: ms)) = hostTurn m (s.withHost ds ks ms) := step_of_move rfl

theorem keyStep_withHost {k : Word} {s t : State} (h : keyStep k s = .next t) (ds : List Descriptor)
    (ks : List Word) (ms : List HostMove) : keyStep k (s.withHost ds ks ms) = .next (t.withHost ds ks ms) := by
  rcases keyStep_cases h with ⟨words, rfl⟩ | ⟨little, rfl⟩ | ⟨big, rfl⟩ | ⟨latched, rfl⟩
  · rw [keyStep_of_wordCommand (s := s.withHost ds ks ms) words, State.wordElement_eq, State.wordElement_eq]
    rfl
  · rw [keyStep_of_bytes (s := s.withHost ds ks ms) (.inl ⟨rfl, little⟩), State.byteElement_eq, State.byteElement_eq]
    rfl
  · rw [keyStep_of_bytes (s := s.withHost ds ks ms) (.inr ⟨rfl, big⟩), State.byteElement_eq, State.byteElement_eq]
    rfl
  · exact keyStep_of_oneatatime (s := s.withHost ds ks ms) latched k

theorem finishOf_withHost (o : Opcode) (s : State) (ds : List Descriptor) (ks : List Word) (ms : List HostMove) :
    finishOf o (s.withHost ds ks ms) = (finishOf o s).withHost ds ks ms := by
  have sameFlush : (s.withHost ds ks ms).flushedLanes = s.flushedLanes := rfl
  cases o with
  | hashlittle =>
    simp only [finishOf, finishHashlittle, reportC_finalBytes_flushPartialWord, sameFlush]
    rfl
  | hashlittle2 =>
    simp only [finishOf, finishHashlittle2_eq, sameFlush]
    rfl
  | hashbig =>
    simp only [finishOf, finishHashbig, reportC_finalBytes_flushPartialWord, sameFlush]
    rfl
  | _ => rfl

theorem finishStep_withHost {s t : State} (h : finishStep s = .next t) (ds : List Descriptor) (ks : List Word)
    (ms : List HostMove) : finishStep (s.withHost ds ks ms) = .next (t.withHost ds ks ms) := by
  obtain ⟨o, latched, rfl⟩ := finishStep_next h
  rw [finishStep_of_latched (s := s.withHost ds ks ms) latched, finishOf_withHost]

/-! ### Commands that complete -/

/-- The running command of `s`, fed the payloads `e`, which are all it lacks, ends in `u`. -/
def State.Completes (s : State) (e : List Word) (u : State) : Prop :=
  s.phase = .run ∧ s.idx.toNat + e.length = s.len.toNat ∧ ∃ w, keySteps e s = .next w ∧ finishStep w = .next u

/-- With nothing lacking, the block's turn is the FINISH step. -/
theorem step_of_completes_nil {s u : State} (done : s.Completes [] u) (ds : List Descriptor) (ks : List Word)
    {host ms : List HostMove} (turn : host = .proceed :: ms ∨ host = [] ∧ ms = []) :
    step (s.withHost ds ks host) = .next (u.withHost ds ks ms) := by
  obtain ⟨runs, counted, w, noKeys, finish⟩ := done
  obtain rfl := Host.Outcome.next.inj noKeys
  rw [step_finish (s := s.withHost ds ks host) turn runs (BitVec.eq_of_toNat_eq counted)]
  exact finishStep_withHost finish ds ks ms

/-- With a payload lacking and offered, the block's turn takes it. -/
theorem step_of_completes_cons {s u : State} {k : Word} {e : List Word} (more : s.Completes (k :: e) u) :
    ∃ t : State, t.Completes e u ∧ ∀ (ds : List Descriptor) (ks : List Word) (host ms : List HostMove),
      host = .proceed :: ms ∨ host = [] ∧ ms = [] →
        step (s.withHost ds (k :: ks) host) = .next (t.withHost ds ks ms) := by
  obtain ⟨runs, counted, w, steps, finish⟩ := more
  rw [List.length_cons] at counted
  have below : s.idx < s.len := by bv_omega
  cases first : keyStep k s with
  | next t =>
    obtain ⟨l, x, p, written⟩ := keyStep_writes first
    refine ⟨t, ⟨by rw [written]; exact runs, ?_, w, (keySteps_cons e first).symm.trans steps, finish⟩, ?_⟩
    · have idx : t.idx.toNat = s.idx.toNat + 1 := by rw [written]; exact toNat_idx_succ below
      have len : t.len = s.len := by rw [written]; rfl
      rw [idx, len]
      omega
    · intro ds ks host ms turn
      rw [step_key (s := s.withHost ds (k :: ks) host) turn runs below rfl]
      exact keyStep_withHost first ds ks ms
  | fault r => rw [keySteps, first] at steps; cases steps
  | refused r => rw [keySteps, first] at steps; cases steps

/-- With a payload lacking and none offered, the block's turn is spent waiting. -/
theorem step_of_completes_starved {s u : State} {k : Word} {e : List Word} (more : s.Completes (k :: e) u)
    (ds : List Descriptor) (ms : List HostMove) :
    step (s.withHost ds [] (.proceed :: ms)) = .next (s.withHost ds [] ms) := by
  obtain ⟨runs, counted, -⟩ := more
  rw [List.length_cons] at counted
  have below : s.idx < s.len := by bv_omega
  exact step_wait (s := s.withHost ds [] (.proceed :: ms)) (.inl rfl) (.inl ⟨runs, BitVec.ne_of_lt below, .inl rfl⟩)

/-! ### An undisturbed run, and a run with any moves of a feeding host -/

/-- Left alone with all its payloads offered, the command takes one a step and then finishes. -/
theorem runs_of_completes {s u : State} {e : List Word} (lacks : s.Completes e u) (ds : List Descriptor)
    (rest : List Word) : (s.withHost ds (e ++ rest) []).Runs (e.length + 1) (u.withHost ds rest []) := by
  induction e generalizing s with
  | nil => exact runs_succ (step_of_completes_nil lacks ds rest (.inr ⟨rfl, rfl⟩)) (runs_zero_iff.2 rfl)
  | cons k e ih =>
    obtain ⟨t, laterLacks, takes⟩ := step_of_completes_cons lacks
    exact runs_succ (takes ds (e ++ rest) [] [] (.inr ⟨rfl, rfl⟩)) (ih laterLacks)

/-- Whatever a feeding host does in between, the command ends in the same registers (R109). -/
theorem runs_of_completes_fed {u : State} {rest : List Word} (ms : List HostMove) (feeds : ∀ m ∈ ms, m.Feeds)
    {s : State} {e : List Word} (lacks : s.Completes e u) (ds : List Descriptor) (ks : List Word)
    (offered : ks ++ offeredKeys ms = e ++ rest) :
    ∃ k ds' ks' ms', (s.withHost ds ks ms).Runs k (u.withHost ds' ks' ms') := by
  induction ms generalizing s e ds ks with
  | nil =>
    have allOffered : ks = e ++ rest := (List.append_nil ks).symm.trans offered
    exact ⟨e.length + 1, ds, rest, [], allOffered ▸ runs_of_completes lacks ds rest⟩
  | cons m ms ih =>
    obtain ⟨⟨notReset, notWithdrawn⟩, feedsLater⟩ := List.forall_mem_cons.1 feeds
    have onward {v : State} {e' : List Word} (lacks' : v.Completes e' u) (ds' : List Descriptor) (ks' : List Word)
        (offered' : ks' ++ offeredKeys ms = e' ++ rest)
        (h : step (s.withHost ds ks (m :: ms)) = .next (v.withHost ds' ks' ms)) :
        ∃ k ds' ks' ms', (s.withHost ds ks (m :: ms)).Runs k (u.withHost ds' ks' ms') := by
      obtain ⟨k, ds', ks', ms', runs⟩ := ih feedsLater lacks' ds' ks' offered'
      exact ⟨k + 1, ds', ks', ms', runs_succ h runs⟩
    cases m with
    | proceed =>
      match e, ks, lacks, offered with
      | [], ks, lacks, _ =>
        exact ⟨1, ds, ks, ms, runs_succ (step_of_completes_nil lacks ds ks (.inl rfl)) (runs_zero_iff.2 rfl)⟩
      | k :: e, [], lacks, offered => exact onward lacks ds [] offered (step_of_completes_starved lacks ds ms)
      | k :: e, k' :: ks, lacks, offered =>
        obtain ⟨rfl, offeredLater⟩ := List.cons.inj offered
        obtain ⟨t, lacksLater, takes⟩ := step_of_completes_cons lacks
        exact onward lacksLater ds ks offeredLater (takes ds ks _ ms (.inl rfl))
    | pause => exact onward lacks ds ks offered (step_withHost_move s ds ks _ ms)
    | assertReset => exact absurd rfl notReset
    | offerCommand d => exact onward lacks (ds ++ [d]) ks offered (step_withHost_move s ds ks _ ms)
    | offerKey k =>
      exact onward lacks ds (ks ++ [k]) (by rw [List.append_assoc]; exact offered) (step_withHost_move s ds ks _ ms)
    | withdrawCommand => exact onward lacks ds.tail ks offered (step_withHost_move s ds ks _ ms)
    | withdrawKey => exact absurd rfl notWithdrawn

end Sys2Proof.Machine
end

/-! The hashing commands run to their end (spec/42_hashword.md R156, R158, R159; spec/43_hashlittle.md R181 to R183;
spec/44_hashbig.md R196): from the CMD step over the KEY steps to the results of the whole-call functions. -/
section
namespace Sys2Proof.Machine

/-! ### The whole-call functions where they have a value -/

/-- The lanes that `hashword2_fn` ends with (R156). -/
def wordHash (e : List Word) (s1 s2 : Word) : Lanes :=
  final3 (foldWords (initLanes (initConstant + (BitVec.ofNat 32 e.length <<< 2) + s1) s2) e)

/-- The lanes that `hashbytes2_fn` ends with (R181). -/
def byteHash (ord : ByteOrder) (e : List Byte) (s1 s2 : Word) : Lanes :=
  final3 (foldBytes ord (initLanes (initConstant + BitVec.ofNat 32 e.length + s1) s2) e)

theorem hashword2Fn_eq {e : List Word} (nonempty : e.length ≠ 0) (fits : e.length < 2 ^ 32) (s1 s2 : Word) :
    hashword2Fn e s1 s2 = some ((wordHash e s1 s2).c, (wordHash e s1 s2).b) :=
  if_neg (by omega)

theorem hashbytes2Fn_eq (ord : ByteOrder) {e : List Byte} (fits : e.length < 2 ^ 32) (s1 s2 : Word) :
    hashbytes2Fn ord e s1 s2 = some ((byteHash ord e s1 s2).c, (byteHash ord e s1 s2).b) :=
  if_neg (by omega)

section Fed
variable {n : Word} {e : List Word} (fed : e.length = n.toNat)
include fed

theorem fed_lt : e.length < 2 ^ 32 := fed ▸ n.isLt

theorem ofNat_fed : BitVec.ofNat 32 e.length = n := by
  rw [fed, BitVec.ofNat_toNat, BitVec.setWidth_eq]

theorem length_bytes_fed : (e.map elementByte).length < 2 ^ 32 := by
  rw [List.length_map]
  exact fed_lt fed

/-! ### The word commands -/

/-- A fed word command before its FINISH step: all elements consumed, the lanes those of the loop of R156. -/
def State.wordsFed (s : State) (o : Opcode) (n x y : Word) (e : List Word) : State :=
  { s.setLanes (foldWords (initLanes (initConstant + (n <<< 2) + x) y) e) with
    op := o.bits, len := n, seed1 := x, seed2 := y, idx := n, err := .none, nres := 0, phase := .run }

theorem keySteps_acceptWords {o : Opcode} (words : o = .hashword ∨ o = .hashword2) (nonempty : n ≠ 0) (x y : Word)
    (s : State) : keySteps e (s.acceptWords o n x y) = .next (s.wordsFed o n x y e) := by
  have latched : o.bits = Opcode.hashword.bits ∨ o.bits = Opcode.hashword2.bits :=
    words.imp (congrArg _) (congrArg _)
  rw [State.acceptWords_pos s o n x y nonempty, keySteps_of_wordCommand e latched (by simp [fed]), ofNat_fed fed]
  simp only [zero_add, State.wordsFed]
  rw [← foldWordsDirectly_eq_foldWords]
  rfl

theorem acceptWords_completes {o : Opcode} (words : o = .hashword ∨ o = .hashword2) (nonempty : n ≠ 0) (x y : Word)
    (s : State) : (s.acceptWords o n x y).Completes e (finishOf o (s.wordsFed o n x y e)) := by
  refine ⟨?_, ?_, _, keySteps_acceptWords fed words nonempty x y s, finishStep_of_latched rfl⟩
  · rw [State.acceptWords_pos s o n x y nonempty]
  · rw [State.acceptWords_pos s o n x y nonempty, fed]
    exact Nat.zero_add _

/-! ### The byte commands -/

/-- A fed byte command before its FINISH step: all elements consumed, and the flush gives the lanes of the loop of
R181. -/
theorem keySteps_acceptBytes {o : Opcode} {ord : ByteOrder} (bytes : PacksBytes ord o.bits) (x y : Word) (s : State) :
    ∃ w l p, keySteps e (s.acceptBytes o n x y) = .next w ∧
      w = { s.setLanes l with
        op := o.bits, len := n, seed1 := x, seed2 := y, pk := p, idx := n, err := .none, nres := 0, phase := .run } ∧
      final3 w.flushedLanes = byteHash ord (e.map elementByte) x y ∧ (if w.len.toNat % 4 = 0 then w.pk else 0) = 0 := by
  have cleanStart : (s.acceptBytes o n x y).PackedClean ord := packClean_zero ord 0
  obtain ⟨w, l, p, steps, written, clean, lanes⟩ := keySteps_of_bytes (s := s.acceptBytes o n x y) e bytes cleanStart
    (by rw [State.acceptBytes_eq]; simp [fed])
  have unpackedStart : (s.acceptBytes o n x y).unpacked = initLanes (initConstant + n + x) y :=
    State.unpacked_of_pk_zero rfl
  have idx : (s.acceptBytes o n x y).idx + BitVec.ofNat 32 e.length = n := idx_after_fed fed
  rw [idx] at written
  obtain ⟨flushed, cleared⟩ := flush_of_consumed clean (by rw [written]; rfl)
  refine ⟨w, l, p, steps, written, ?_, cleared⟩
  rw [flushed, lanes, unpackedStart, byteHash, List.length_map, ofNat_fed fed, ← foldBytesDirectly_eq_foldBytes]
  rfl

/-- HASHLITTLE and HASHBIG as one command with the byte order as parameter: where the fed command ends. -/
def State.bytesDone1 (s : State) (o : Opcode) (n x : Word) (r : Lanes) : State :=
  { s.setLanes r with
    op := o.bits, len := n, seed1 := x, seed2 := 0, idx := n, pk := 0, res0 := r.c, nres := 1, err := .none
    phase := .done }

theorem acceptBytes_completes1 {o : Opcode} {ord : ByteOrder}
    (command : o = .hashlittle ∧ ord = .little ∨ o = .hashbig ∧ ord = .big) (x : Word) (s : State) :
    (s.acceptBytes o n x 0).Completes e (s.bytesDone1 o n x (byteHash ord (e.map elementByte) x 0)) := by
  have bytes : PacksBytes ord o.bits := by
    rcases command with ⟨rfl, rfl⟩ | ⟨rfl, rfl⟩
    · exact .inl ⟨rfl, .inl rfl⟩
    · exact .inr ⟨rfl, rfl⟩
  have report (w : State) : finishOf o w = w.flushPartialWord.finalBytes.reportC := by
    rcases command with ⟨rfl, rfl⟩ | ⟨rfl, rfl⟩
    · rfl
    · rfl
  obtain ⟨w, l, p, steps, written, flushed, cleared⟩ := keySteps_acceptBytes fed bytes x 0 s
  refine ⟨rfl, (Nat.zero_add _).trans fed, w, steps, ?_⟩
  rw [finishStep_of_latched (o := o) (by rw [written]), report, reportC_finalBytes_flushPartialWord, flushed, cleared,
    written]
  rfl

theorem acceptBytes_completes2 (x y : Word) (s : State) :
    (s.acceptBytes .hashlittle2 n x y).Completes e
      (let r := byteHash .little (e.map elementByte) x y
       { s.setLanes r with
          op := Opcode.hashlittle2.bits, len := n, seed1 := x, seed2 := y, idx := n, pk := 0, res0 := r.c, res1 := r.b
          nres := 2, err := .none, phase := .done }) := by
  have bytes : PacksBytes .little Opcode.hashlittle2.bits := .inl ⟨rfl, .inr rfl⟩
  obtain ⟨w, l, p, steps, written, flushed, cleared⟩ := keySteps_acceptBytes fed bytes x y s
  refine ⟨rfl, (Nat.zero_add _).trans fed, w, steps, ?_⟩
  rw [finishStep_of_latched (o := .hashlittle2) (by rw [written]), finishOf, finishHashlittle2_eq, flushed, cleared,
    written]
  rfl

end Fed

/-! ### The runs -/

/-- An undisturbed block that accepts a command and is offered all its payloads runs to the end of it. -/
theorem runs_of_exec {i : Instr} {s u : State} {e rest : List Word} (undisturbed : s.Undisturbed)
    (offered : s.keyChannel = e ++ rest) (lacks : (acceptInstr i s).Completes e u) :
    (acceptInstr i s).Runs (e.length + 1) (u.withHost s.cmdChannel rest s.host) := by
  have host : s.host = [] := undisturbed
  have start : acceptInstr i s = (acceptInstr i s).withHost s.cmdChannel (e ++ rest) [] := by
    obtain ⟨_, _, _, _, _, _, _, _, _, accepts⟩ := acceptInstr_writes i s
    rw [accepts, ← offered, ← host]
    rfl
  rw [start, host]
  exact runs_of_completes lacks s.cmdChannel rest

/-- Settles O25, with the lanes of `wordHash`. -/
theorem hashwordCompletes : Obligations.HashwordCompletes := by
  intro len seed1 s e rest ready undisturbed nonempty offered fed
  have lengthPos : e.length ≠ 0 := by bv_omega
  have runs := runs_of_exec (i := .hashword len seed1) undisturbed offered
    (acceptWords_completes fed (.inl rfl) nonempty seed1 0 s)
  refine ⟨_, _, wordHash e seed1 0, exec_ready (.hashword len seed1) s ready, fed ▸ runs,
    hashword2Fn_eq lengthPos (fed_lt fed) seed1 0, ?_⟩
  rw [wordHash, ofNat_fed fed]
  rfl

/-- Settles O26, with the lanes of `wordHash`. -/
theorem hashword2Completes : Obligations.Hashword2Completes := by
  intro len seed1 seed2 s e rest ready undisturbed nonempty offered fed
  have lengthPos : e.length ≠ 0 := by bv_omega
  have runs := runs_of_exec (i := .hashword2 len seed1 seed2) undisturbed offered
    (acceptWords_completes fed (.inr rfl) nonempty seed1 seed2 s)
  refine ⟨_, _, wordHash e seed1 seed2, exec_ready (.hashword2 len seed1 seed2) s ready, fed ▸ runs,
    hashword2Fn_eq lengthPos (fed_lt fed) seed1 seed2, ?_⟩
  rw [wordHash, ofNat_fed fed]
  rfl

/-- Settles O27, with the lanes of `byteHash` in either byte order. -/
theorem hashlittleAndHashbigComplete : Obligations.HashlittleAndHashbigComplete := by
  intro len seed1 s e rest ready undisturbed offered fed
  constructor
  · have runs := runs_of_exec (i := .hashlittle len seed1) undisturbed offered
      (acceptBytes_completes1 fed (.inl ⟨rfl, rfl⟩) seed1 s)
    exact ⟨_, _, byteHash .little (e.map elementByte) seed1 0, exec_ready (.hashlittle len seed1) s ready, fed ▸ runs,
      hashbytes2Fn_eq .little (length_bytes_fed fed) seed1 0, rfl⟩
  · have runs := runs_of_exec (i := .hashbig len seed1) undisturbed offered
      (acceptBytes_completes1 fed (.inr ⟨rfl, rfl⟩) seed1 s)
    exact ⟨_, _, byteHash .big (e.map elementByte) seed1 0, exec_ready (.hashbig len seed1) s ready, fed ▸ runs,
      hashbytes2Fn_eq .big (length_bytes_fed fed) seed1 0, rfl⟩

/-- Settles O28, with the lanes of `byteHash`. -/
theorem hashlittle2Completes : Obligations.Hashlittle2Completes := by
  intro len seed1 seed2 s e rest ready undisturbed offered fed
  have runs := runs_of_exec (i := .hashlittle2 len seed1 seed2) undisturbed offered
    (acceptBytes_completes2 fed seed1 seed2 s)
  exact ⟨_, _, byteHash .little (e.map elementByte) seed1 seed2, exec_ready (.hashlittle2 len seed1 seed2) s ready,
    fed ▸ runs, hashbytes2Fn_eq .little (length_bytes_fed fed) seed1 seed2, rfl⟩

end Sys2Proof.Machine
end

/-! Every fed command ends with the results its function gives, whenever its beats arrive (spec/40_sequencer.md
R109). -/
section
namespace Sys2Proof.Machine

/-- A completed command of opcode `o` with the result words `rs`. -/
def State.Delivers (u : State) (o : Opcode) (rs : List Word) : Prop :=
  u.phase = .done ∧ u.err = .none ∧ u.results = rs ∧ u.nres.toNat = o.results

/-- A command has a value only for as many payloads as it takes. -/
theorem length_of_commandFn {i : Instr} {e rs : List Word} (value : commandFn i e = some rs) :
    e.length = (beatCount i).toNat := by
  by_contra wrong
  cases (if_neg wrong : commandFn i e = none).symm.trans value

/-- `hashword2_fn` has a value only for a nonempty sequence (R160, U9). -/
theorem length_ne_zero_of_hashword2Fn {e : List Word} {s1 s2 : Word} {r : Word × Word}
    (value : hashword2Fn e s1 s2 = some r) : e.length ≠ 0 := fun empty => by
  cases (if_pos (.inl empty) : hashword2Fn e s1 s2 = none).symm.trans value

/-! ### The value of each command -/

section Value
variable {n : Word} {e : List Word} (fed : e.length = n.toNat)
include fed

theorem commandFn_hashword (x : Word) :
    commandFn (.hashword n x) e = (hashword2Fn e x 0).map fun r => [r.1] := if_pos fed

theorem commandFn_hashword2 (x y : Word) :
    commandFn (.hashword2 n x y) e = (hashword2Fn e x y).map fun r => [r.1, r.2] := if_pos fed

theorem commandFn_hashlittle (x : Word) :
    commandFn (.hashlittle n x) e = some [(byteHash .little (e.map elementByte) x 0).c] := by
  have value : commandFn (.hashlittle n x) e =
      (hashbytes2Fn .little (e.map elementByte) x 0).map fun r => [r.1] := if_pos fed
  rw [value, hashbytes2Fn_eq .little (length_bytes_fed fed), Option.map_some]

theorem commandFn_hashlittle2 (x y : Word) :
    commandFn (.hashlittle2 n x y) e =
      some [(byteHash .little (e.map elementByte) x y).c, (byteHash .little (e.map elementByte) x y).b] := by
  have value : commandFn (.hashlittle2 n x y) e =
      (hashbytes2Fn .little (e.map elementByte) x y).map fun r => [r.1, r.2] := if_pos fed
  rw [value, hashbytes2Fn_eq .little (length_bytes_fed fed), Option.map_some]

theorem commandFn_hashbig (x : Word) :
    commandFn (.hashbig n x) e = some [(byteHash .big (e.map elementByte) x 0).c] := by
  have value : commandFn (.hashbig n x) e =
      (hashbytes2Fn .big (e.map elementByte) x 0).map fun r => [r.1] := if_pos fed
  rw [value, hashbytes2Fn_eq .big (length_bytes_fed fed), Option.map_some]

theorem commandFn_oneatatime : commandFn (.oneatatime n) e = some [oneatatimeFn (e.map elementByte)] := if_pos fed

end Value

/-! ### Every command completes with its value -/

theorem tripleDone_delivers (s : State) {o : Opcode} (three : o.results = 3) (r : Lanes) :
    (s.tripleDone o r).Delivers o r.toList := ⟨rfl, rfl, rfl, three.symm⟩

theorem acceptInstr_completes {i : Instr} {e rs : List Word} (s : State) (value : commandFn i e = some rs) :
    ∃ u, (acceptInstr i s).Completes e u ∧ u.Delivers i.opcode rs := by
  have fed := length_of_commandFn value
  cases i with
  | mix x y z =>
    obtain rfl := List.length_eq_zero_iff.1 fed
    obtain rfl := Option.some.inj value
    exact ⟨_, ⟨rfl, rfl, _, rfl, finishStep_acceptTriple_mix s x y z⟩, tripleDone_delivers s rfl _⟩
  | final x y z =>
    obtain rfl := List.length_eq_zero_iff.1 fed
    obtain rfl := Option.some.inj value
    exact ⟨_, ⟨rfl, rfl, _, rfl, finishStep_acceptTriple_final s x y z⟩, tripleDone_delivers s rfl _⟩
  | hashword n x =>
    obtain ⟨r, hash, rfl⟩ := Option.map_eq_some_iff.1 ((commandFn_hashword fed x).symm.trans value)
    have lengthPos := length_ne_zero_of_hashword2Fn hash
    obtain rfl := Option.some.inj ((hashword2Fn_eq lengthPos (fed_lt fed) x 0).symm.trans hash)
    have nonempty : n ≠ 0 := by rintro rfl; exact lengthPos fed
    refine ⟨_, acceptWords_completes fed (.inl rfl) nonempty x 0 s, rfl, rfl, ?_, rfl⟩
    rw [wordHash, ofNat_fed fed]
    rfl
  | hashword2 n x y =>
    obtain ⟨r, hash, rfl⟩ := Option.map_eq_some_iff.1 ((commandFn_hashword2 fed x y).symm.trans value)
    have lengthPos := length_ne_zero_of_hashword2Fn hash
    obtain rfl := Option.some.inj ((hashword2Fn_eq lengthPos (fed_lt fed) x y).symm.trans hash)
    have nonempty : n ≠ 0 := by rintro rfl; exact lengthPos fed
    refine ⟨_, acceptWords_completes fed (.inr rfl) nonempty x y s, rfl, rfl, ?_, rfl⟩
    rw [wordHash, ofNat_fed fed]
    rfl
  | hashlittle n x =>
    obtain rfl := Option.some.inj ((commandFn_hashlittle fed x).symm.trans value)
    exact ⟨_, acceptBytes_completes1 fed (.inl ⟨rfl, rfl⟩) x s, rfl, rfl, rfl, rfl⟩
  | hashlittle2 n x y =>
    obtain rfl := Option.some.inj ((commandFn_hashlittle2 fed x y).symm.trans value)
    exact ⟨_, acceptBytes_completes2 fed x y s, rfl, rfl, rfl, rfl⟩
  | hashbig n x =>
    obtain rfl := Option.some.inj ((commandFn_hashbig fed x).symm.trans value)
    exact ⟨_, acceptBytes_completes1 fed (.inr ⟨rfl, rfl⟩) x s, rfl, rfl, rfl, rfl⟩
  | oneatatime n =>
    obtain rfl := Option.some.inj ((commandFn_oneatatime fed).symm.trans value)
    refine ⟨_, ⟨rfl, (Nat.zero_add _).trans fed, _, keySteps_of_oneatatime rfl e, finishStep_of_oneatatime rfl⟩, ?_⟩
    rw [acceptInstr, finishOneatatime_fed (len := n) fed]
    exact ⟨rfl, rfl, rfl, rfl⟩

/-! ### The runs -/

/-- Settles O30: the first step accepts the command, the others are the undisturbed run to its end. -/
theorem everyFedCommandDeliversItsFunction : Obligations.EveryFedCommandDeliversItsFunction := by
  intro i s ds e rest rs ready undisturbed offeredCmd offeredKeys value
  have accepted : step s = .next (acceptInstr i { s with cmdChannel := ds, host := [] }) :=
    (stepRunsTheDecodedInstruction s _ ds i [] ready offeredCmd (decodeOfEncodeIsTheInstruction i)
      (.inr ⟨undisturbed, rfl⟩)).trans (exec_ready i { s with cmdChannel := ds, host := [] } ready)
  obtain ⟨u, lacks, phase, err, results, nres⟩ :=
    acceptInstr_completes { s with cmdChannel := ds, host := [] } value
  have runs := runs_of_exec (s := { s with cmdChannel := ds, host := [] }) rfl offeredKeys lacks
  exact ⟨_, runs_succ accepted runs, phase, err, results, nres, rfl, rfl⟩

/-- Settles O31, from the run with any moves of a feeding host. -/
theorem arrivalTimesDoNotMatter : Obligations.ArrivalTimesDoNotMatter := by
  intro i s t e rest rs ready accepts feeds offered value
  obtain rfl := Host.Outcome.next.inj ((exec_ready i s ready).symm.trans accepts)
  obtain ⟨u, lacks, phase, -, results, -⟩ := acceptInstr_completes s value
  obtain ⟨k, ds, ks, ms, runs⟩ := runs_of_completes_fed (acceptInstr i s).host feeds lacks
    (acceptInstr i s).cmdChannel (acceptInstr i s).keyChannel offered
  exact ⟨k, u.withHost ds ks ms, runs, phase, results⟩

end Sys2Proof.Machine
end

/-! The invariant of the block (spec/10_state.md R24, R27, R28, R30, R31): it holds after reset, every step keeps it, no
step fails from it, and it leaves STATUS seven values. -/
section
namespace Sys2Proof.Machine

/-! ### The invariant, phase by phase -/

/-- The clause about `pk`, in both byte orders at once. -/
theorem packInv_iff (s : State) :
    s.PackInv ↔ (s.phase = .run → ∀ ord, PacksBytes ord s.op → s.PackedClean ord) := by
  unfold State.PackedClean
  constructor
  · rintro ⟨little, big⟩ runs ord (⟨rfl, latched⟩ | ⟨rfl, latched⟩)
    · exact (packClean_little_iff _ _).2 (little (latched.imp (.intro runs) (.intro runs)))
    · exact (packClean_big_iff _ _).2 (big ⟨runs, latched⟩)
  · intro clean
    refine ⟨fun runs => (packClean_little_iff _ _).1 ?_, fun ⟨runs, latched⟩ => (packClean_big_iff _ _).1 ?_⟩
    · rcases runs with ⟨runs, latched⟩ | ⟨runs, latched⟩
      · exact clean runs .little (.inl ⟨rfl, .inl latched⟩)
      · exact clean runs .little (.inl ⟨rfl, .inr latched⟩)
    · exact clean runs .big (.inr ⟨rfl, latched⟩)

theorem Opcode.bits_inj {o o' : Opcode} : o.bits = o'.bits ↔ o = o' :=
  ⟨fun same => Option.some.inj ((Opcode_ofBits_bits o).symm.trans (same ▸ Opcode_ofBits_bits o')), congrArg _⟩

/-- What the invariant says of a running command of opcode `o`. -/
def State.RunsWell (s : State) (o : Opcode) : Prop :=
  s.op = o.bits ∧ s.idx ≤ s.len ∧ (o = .mix ∨ o = .final → s.len = 0) ∧ (o = .hashword ∨ o = .hashword2 → s.len ≠ 0) ∧
    (o = .hashword ∨ o = .hashlittle ∨ o = .hashbig → s.seed2 = 0)

theorem runInv_iff (s : State) : s.RunInv ↔ (s.phase = .run → ∃ o, s.RunsWell o) := by
  refine forall_congr' fun _ => ⟨?_, ?_⟩
  · rintro ⟨named, idx, triple, words, oneSeed⟩
    obtain ⟨o, latched⟩ := Option.isSome_iff_exists.1 named
    rw [Opcode_ofBits_eq_some] at latched
    simp only [latched, Opcode.bits_inj] at triple words oneSeed
    exact ⟨o, latched, idx, triple, words, oneSeed⟩
  · rintro ⟨o, latched, idx, triple, words, oneSeed⟩
    simp only [latched, Opcode.bits_inj, Opcode_ofBits_bits]
    exact ⟨rfl, idx, triple, words, oneSeed⟩

/-- Outside of RUN and DONE the invariant speaks of `err` and `nres` only. -/
theorem inv_of_stopped {s : State} (notRun : s.phase ≠ .run) (notDone : s.phase ≠ .done) (nres : s.nres = 0)
    (errIff : s.err ≠ .none ↔ s.phase = .err)
    (raised : s.err = .none ∨ s.err = .invalidInput ∨ s.err = .illegalCommand) : s.Inv :=
  ⟨⟨errIff, fun some => absurd nres some, raised⟩, fun runs => absurd runs notRun,
    (packInv_iff s).2 fun runs => absurd runs notRun, fun done => absurd done notDone⟩

theorem inv_of_running {s : State} {o : Opcode} (runs : s.phase = .run) (err : s.err = .none) (nres : s.nres = 0)
    (well : s.RunsWell o) (clean : ∀ ord, PacksBytes ord o.bits → s.PackedClean ord) : s.Inv := by
  have ⟨latched, _⟩ := well
  refine ⟨⟨?_, fun some => absurd nres some, .inl err⟩, (runInv_iff s).2 fun _ => ⟨o, well⟩,
    (packInv_iff s).2 fun _ ord bytes => clean ord (latched ▸ bytes), fun done => (by cases runs.symm.trans done)⟩
  rw [err, runs]
  exact ⟨fun raised => absurd rfl raised, Phase.noConfusion⟩

/-- A running command under the invariant. -/
theorem running_of_inv {s : State} (inv : s.Inv) (runs : s.phase = .run) :
    ∃ o, s.err = .none ∧ s.nres = 0 ∧ s.RunsWell o ∧ ∀ ord, PacksBytes ord o.bits → s.PackedClean ord := by
  obtain ⟨⟨errIff, nresDone, -⟩, runInv, packInv, -⟩ := inv
  obtain ⟨o, well⟩ := (runInv_iff s).1 runInv runs
  refine ⟨o, ?_, ?_, well, fun ord bytes => (packInv_iff s).1 packInv runs ord ?_⟩
  · by_contra raised
    cases runs.symm.trans (errIff.1 raised)
  · by_contra some
    cases runs.symm.trans (nresDone some)
  · obtain ⟨latched, -⟩ := well
    exact latched ▸ bytes

/-! ### Reset and the moves of the host -/

/-- Settles O40: phase IDLE with `err` and `nres` 0. -/
theorem resetSatisfiesTheInvariant : Obligations.ResetSatisfiesTheInvariant :=
  inv_of_stopped (by decide) (by decide) rfl (by decide) (.inl rfl)

theorem applyReset_inv (s : State) : s.applyReset.Inv := by
  have idle : s.applyReset.phase = .idle := rfl
  have err : s.applyReset.err = .none := rfl
  refine inv_of_stopped ?_ ?_ rfl ?_ (.inl err)
  · rw [idle]; decide
  · rw [idle]; decide
  · rw [idle, err]; decide

/-- The invariant speaks of registers only. -/
theorem withHost_inv {s : State} (inv : s.Inv) (ds : List Descriptor) (ks : List Word) (ms : List HostMove) :
    (s.withHost ds ks ms).Inv := inv

/-! ### The CMD step -/

theorem acceptIllegal_inv (s : State) : s.acceptIllegal.Inv := by
  have phase : s.acceptIllegal.phase = .err := rfl
  have err : s.acceptIllegal.err = .illegalCommand := rfl
  refine inv_of_stopped ?_ ?_ rfl ?_ (.inr (.inr err))
  · rw [phase]; decide
  · rw [phase]; decide
  · rw [phase, err]; decide

theorem acceptWords_inv {o : Opcode} (s : State) (n x y : Word)
    (words : o = .hashword ∧ y = 0 ∨ o = .hashword2) : (s.acceptWords o n x y).Inv := by
  by_cases empty : n = 0
  · have phase : (s.acceptWords o 0 x y).phase = .err := rfl
    have err : (s.acceptWords o 0 x y).err = .invalidInput := rfl
    subst empty
    refine inv_of_stopped ?_ ?_ rfl ?_ (.inr (.inl err))
    · rw [phase]; decide
    · rw [phase]; decide
    · rw [phase, err]; decide
  · rw [State.acceptWords_pos s o n x y empty]
    refine inv_of_running (o := o) rfl rfl rfl ⟨rfl, Nat.zero_le _, ?_, fun _ => empty, ?_⟩ fun ord bytes => ?_
    · rcases words with ⟨rfl, -⟩ | rfl <;> simp
    · rcases words with ⟨-, seed2⟩ | rfl
      · exact fun _ => seed2
      · simp
    · rcases words with ⟨rfl, -⟩ | rfl <;> simp [PacksBytes, Opcode.bits_inj] at bytes

theorem acceptTriple_inv {o : Opcode} (s : State) (x y z : Word) (triple : o = .mix ∨ o = .final) :
    (s.acceptTriple o x y z).Inv := by
  refine inv_of_running (o := o) rfl rfl rfl ⟨rfl, Nat.zero_le _, fun _ => rfl, ?_, ?_⟩ fun ord bytes => ?_
  · rcases triple with rfl | rfl <;> simp
  · rcases triple with rfl | rfl <;> simp
  · rcases triple with rfl | rfl <;> simp [PacksBytes, Opcode.bits_inj] at bytes

/-- `pk` is cleared when a byte command is accepted (R102). -/
theorem acceptBytes_inv {o : Opcode} (s : State) (n x y : Word)
    (bytes : (o = .hashlittle ∨ o = .hashbig) ∧ y = 0 ∨ o = .hashlittle2) : (s.acceptBytes o n x y).Inv := by
  refine inv_of_running (o := o) rfl rfl rfl ⟨rfl, Nat.zero_le _, ?_, ?_, ?_⟩ fun ord _ => packClean_zero ord 0
  · rcases bytes with ⟨rfl | rfl, -⟩ | rfl <;> simp
  · rcases bytes with ⟨rfl | rfl, -⟩ | rfl <;> simp
  · rcases bytes with ⟨-, seed2⟩ | rfl
    · exact fun _ => seed2
    · simp

theorem acceptOneAtATime_inv (s : State) (n : Word) : (s.acceptOneAtATime .oneatatime n).Inv := by
  refine inv_of_running (o := .oneatatime) rfl rfl rfl ⟨rfl, Nat.zero_le _, by simp, by simp, by simp⟩
    fun ord bytes => ?_
  exact absurd bytes (not_packsBytes_oneatatime ord)

theorem acceptInstr_inv (i : Instr) (s : State) : (acceptInstr i s).Inv := by
  cases i with
  | mix x y z => exact acceptTriple_inv s x y z (.inl rfl)
  | final x y z => exact acceptTriple_inv s x y z (.inr rfl)
  | hashword n x => exact acceptWords_inv s n x 0 (.inl ⟨rfl, rfl⟩)
  | hashword2 n x y => exact acceptWords_inv s n x y (.inr rfl)
  | hashlittle n x => exact acceptBytes_inv s n x 0 (.inl ⟨.inl rfl, rfl⟩)
  | hashlittle2 n x y => exact acceptBytes_inv s n x y (.inr rfl)
  | hashbig n x => exact acceptBytes_inv s n x 0 (.inl ⟨.inr rfl, rfl⟩)
  | oneatatime n => exact acceptOneAtATime_inv s n

theorem cmdStep_inv {d : Descriptor} {s t : State} (ready : s.phase ≠ .run) (h : cmdStep d s = .next t) : t.Inv := by
  rcases cmdStep_cases ready h with ⟨i, rfl⟩ | rfl
  · exact acceptInstr_inv i s
  · exact acceptIllegal_inv s

/-! ### The KEY and the FINISH step -/

/-- A KEY step advances `idx` to at most `len` and keeps the pack register clean. -/
theorem keyStep_inv {k : Word} {s t : State} (inv : s.Inv) (runs : s.phase = .run) (below : s.idx < s.len)
    (h : keyStep k s = .next t) : t.Inv := by
  obtain ⟨o, err, nres, ⟨latched, -, kinds⟩, clean⟩ := running_of_inv inv runs
  have cleanLater (ord : ByteOrder) (bytes : PacksBytes ord o.bits) : t.PackedClean ord := by
    obtain rfl := Host.Outcome.next.inj ((keyStep_of_bytes (latched ▸ bytes) k).symm.trans h)
    exact byteElement_packedClean (clean ord bytes) below _
  have idx : s.idx + 1 ≤ s.len := by bv_omega
  obtain ⟨l, x, p, rfl⟩ := keyStep_writes h
  exact inv_of_running (o := o) runs err nres ⟨latched, idx, kinds⟩ cleanLater

/-- FINISH is taken when all elements are consumed, and reports as many words as its command has. -/
theorem finishStep_inv {s t : State} (inv : s.Inv) (runs : s.phase = .run) (consumed : s.idx = s.len)
    (h : finishStep s = .next t) : t.Inv := by
  obtain ⟨o, err, -⟩ := running_of_inv inv runs
  obtain ⟨l, x, p, r0, r1, r2, n, written, results⟩ := finishStep_writes h
  have done : t.phase = .done := by rw [written]
  have errLater : t.err = .none := by rw [written]; exact err
  have doneInv : t.DoneInv := fun _ => by rw [written]; exact ⟨consumed, results⟩
  have notRun : t.phase ≠ .run := by rw [done]; decide
  refine ⟨⟨?_, fun _ => done, .inl errLater⟩, fun runs => absurd runs notRun,
    (packInv_iff t).2 fun runs => absurd runs notRun, doneInv⟩
  rw [errLater, done]
  decide

/-! ### Every step -/

theorem blockStep_inv {s t : State} (inv : s.Inv) (h : blockStep s = .next t) : t.Inv := by
  rcases blockStep_cases s with ⟨runs, consumed, finish⟩ | ⟨k, ks, runs, below, -, key⟩ | ⟨d, ds, ready, -, cmd⟩ |
    ⟨waits, -⟩
  · exact finishStep_inv inv runs consumed (finish.symm.trans h)
  · exact keyStep_inv (s := s.setKeyChannel ks) inv runs below (key.symm.trans h)
  · exact cmdStep_inv (s := s.setCmdChannel ds) ready (cmd.symm.trans h)
  · exact Host.Outcome.next.inj (waits.symm.trans h) ▸ inv

/-- Settles O41: the block's step by its cases, asserted reset, and a move of the host that writes no register. -/
theorem stepKeepsTheInvariant : Obligations.StepKeepsTheInvariant := by
  intro s t inv h
  rcases step_turns h with ⟨ms, -, block⟩ | reset | ⟨ms, ds, ks, rfl⟩
  · exact blockStep_inv (s := s.setHost ms) inv block
  · obtain ⟨ms, -, resets⟩ := step_of_assertReset reset
    exact Host.Outcome.next.inj (resets.symm.trans h) ▸ applyReset_inv (s.setHost ms)
  · exact withHost_inv inv ds ks ms

/-! ### No step fails -/

/-- The KEY step of a command that has one goes on (R104). -/
theorem keyStep_goesOn {s : State} {o : Opcode} (latched : s.op = o.bits) (notTriple : ¬ (o = .mix ∨ o = .final))
    (k : Word) : GoesOn (keyStep k s) := by
  unfold keyStep
  rw [latched, Opcode_ofBits_bits]
  cases o with
  | mix => exact absurd (.inl rfl) notTriple
  | final => exact absurd (.inr rfl) notTriple
  | _ => exact ⟨_, rfl⟩

/-- MIX and FINAL have LEN 0, so under the invariant no KEY step of theirs is enabled. -/
theorem blockStep_goesOn {s : State} (inv : s.Inv) : GoesOn (blockStep s) := by
  rcases blockStep_cases s with ⟨runs, -, finish⟩ | ⟨k, ks, runs, below, -, key⟩ | ⟨d, ds, ready, -, cmd⟩ | ⟨waits, -⟩
  · obtain ⟨o, -, -, ⟨latched, -⟩, -⟩ := running_of_inv inv runs
    exact ⟨_, finish.trans (finishStep_of_latched latched)⟩
  · obtain ⟨o, -, -, ⟨latched, -, tripleLen, -⟩, -⟩ := running_of_inv inv runs
    rw [key]
    refine keyStep_goesOn (s := s.setKeyChannel ks) latched (fun triple => ?_) k
    rw [tripleLen triple] at below
    exact BitVec.not_lt_zero below
  · rw [cmd]
    rcases cmdStep_ready d (s.setCmdChannel ds) ready with ⟨i, -, accepts⟩ | ⟨e, -, raises⟩
    · exact ⟨_, accepts⟩
    · exact ⟨_, raises⟩
  · exact ⟨s, waits⟩

theorem hostTurn_goesOn {s : State} (inv : s.Inv) (m : HostMove) : GoesOn (hostTurn m s) := by
  cases m with
  | proceed => exact blockStep_goesOn inv
  | _ => exact ⟨_, rfl⟩

/-- Settles O42, from the block's step; the other moves of the host always go on. -/
theorem invariantStatesNeverStop : Obligations.InvariantStatesNeverStop := by
  intro s inv
  rcases step_cases s with ⟨-, block⟩ | ⟨m, ms, -, move⟩
  · exact block ▸ blockStep_goesOn inv
  · exact move ▸ hostTurn_goesOn (s := s.setHost ms) inv m

/-! ### The values of STATUS -/

theorem results_mem (o : Opcode) : o.results = 1 ∨ o.results = 2 ∨ o.results = 3 := by
  cases o <;> decide

/-- Under the invariant the phase leaves little choice for `err` and `nres`. -/
theorem fields_of_inv {s : State} (inv : s.Inv) :
    (s.phase = .idle ∨ s.phase = .run) ∧ s.err = .none ∧ s.nres = 0 ∨
      s.phase = .done ∧ s.err = .none ∧ (s.nres = 1 ∨ s.nres = 2 ∨ s.nres = 3) ∨
      s.phase = .err ∧ (s.err = .invalidInput ∨ s.err = .illegalCommand) ∧ s.nres = 0 := by
  obtain ⟨⟨errIff, nresDone, raised⟩, -, -, doneInv⟩ := inv
  have noError (stopped : s.phase ≠ .err) : s.err = .none := by
    by_contra code
    exact stopped (errIff.1 code)
  have noResult (unfinished : s.phase ≠ .done) : s.nres = 0 := by
    by_contra some
    exact unfinished (nresDone some)
  cases phase : s.phase with
  | idle => exact .inl ⟨.inl rfl, noError (by simp [phase]), noResult (by simp [phase])⟩
  | run => exact .inl ⟨.inr rfl, noError (by simp [phase]), noResult (by simp [phase])⟩
  | done =>
    obtain ⟨-, counted⟩ := doneInv phase
    obtain ⟨o, -, results⟩ := Option.map_eq_some_iff.1 counted
    have count := results_mem o
    rw [results] at count
    exact .inr (.inl ⟨rfl, noError (by simp [phase]), by bv_omega⟩)
  | err => exact .inr (.inr ⟨rfl, raised.resolve_left (errIff.2 phase), noResult (by simp [phase])⟩)

/-- Settles O43: STATUS is a function of the three fields. -/
theorem statusHasSevenValues : Obligations.StatusHasSevenValues := by
  intro s inv
  unfold State.statusWord
  rcases fields_of_inv inv with ⟨phase | phase, err, nres⟩ | ⟨phase, err, nres | nres | nres⟩ |
    ⟨phase, err | err, nres⟩
  all_goals
    rw [phase, err, nres]
    decide

end Sys2Proof.Machine
end

/-! Two runs in step: what has to be shown of two states, kind of step by kind of step, so that they stay related over
any number of steps and whatever the host does. -/
section
namespace Sys2Proof.Machine

/-- A relation between states that every kind of step keeps, and that leaves the choice of the step the same. -/
structure Simulation (R : State → State → Prop) : Prop where
  cmdChannel : ∀ {s s'}, R s s' → s'.cmdChannel = s.cmdChannel
  keyChannel : ∀ {s s'}, R s s' → s'.keyChannel = s.keyChannel
  host : ∀ {s s'}, R s s' → s'.host = s.host
  phase : ∀ {s s'}, R s s' → s'.phase = s.phase
  count : ∀ {s s'}, R s s' → s.phase = .run → s'.idx = s.idx ∧ s'.len = s.len
  withHost : ∀ {s s'}, R s s' → ∀ ds ks ms, R (s.withHost ds ks ms) (s'.withHost ds ks ms)
  reset : ∀ {s s'}, R s s' → R s.applyReset s'.applyReset
  accept : ∀ {s s'}, R s s' → ∀ i, R (acceptInstr i s) (acceptInstr i s')
  illegal : ∀ {s s'}, R s s' → R s.acceptIllegal s'.acceptIllegal
  key : ∀ {s s' t k}, R s s' → s.phase = .run → keyStep k s = .next t → ∃ t', keyStep k s' = .next t' ∧ R t t'
  finish : ∀ {s s' t}, R s s' → s.phase = .run → finishStep s = .next t → ∃ t', finishStep s' = .next t' ∧ R t t'

namespace Simulation
variable {R : State → State → Prop} (sim : Simulation R) {s s' t : State}
include sim

theorem setHost (related : R s s') (ms : List HostMove) : R (s.setHost ms) (s'.setHost ms) := by
  have same : s'.setHost ms = s'.withHost s.cmdChannel s.keyChannel ms := by
    rw [← sim.cmdChannel related, ← sim.keyChannel related]
    rfl
  exact same ▸ sim.withHost related s.cmdChannel s.keyChannel ms

theorem setCmdChannel (related : R s s') (ds : List Descriptor) : R (s.setCmdChannel ds) (s'.setCmdChannel ds) := by
  have same : s'.setCmdChannel ds = s'.withHost ds s.keyChannel s.host := by
    rw [← sim.keyChannel related, ← sim.host related]
    rfl
  exact same ▸ sim.withHost related ds s.keyChannel s.host

theorem setKeyChannel (related : R s s') (ks : List Word) : R (s.setKeyChannel ks) (s'.setKeyChannel ks) := by
  have same : s'.setKeyChannel ks = s'.withHost s.cmdChannel ks s.host := by
    rw [← sim.cmdChannel related, ← sim.host related]
    rfl
  exact same ▸ sim.withHost related s.cmdChannel ks s.host

/-- One descriptor makes both accept the same command, or both raise. -/
theorem cmdStep (related : R s s') (ready : s.phase ≠ .run) {d : Descriptor} (h : cmdStep d s = .next t) :
    ∃ t', Machine.cmdStep d s' = .next t' ∧ R t t' := by
  have ready' : s'.phase ≠ .run := sim.phase related ▸ ready
  rcases cmdStep_ready d s ready with ⟨i, decoded, accepts⟩ | ⟨e, refused, raises⟩
  · obtain rfl := Host.Outcome.next.inj (accepts.symm.trans h)
    exact ⟨_, (cmdStep_of_decode decoded s').trans (exec_ready i s' ready'), sim.accept related i⟩
  · obtain rfl := Host.Outcome.next.inj (raises.symm.trans h)
    have illegal := (decode_error_iff d).1 ⟨e, refused⟩
    exact ⟨_, cmdStep_of_illegal ready' illegal, sim.illegal related⟩

theorem blockStep (related : R s s') (h : blockStep s = .next t) :
    ∃ t', Machine.blockStep s' = .next t' ∧ R t t' := by
  have phase := sim.phase related
  rcases blockStep_cases s with ⟨runs, consumed, finish⟩ | ⟨k, ks, runs, below, offered, key⟩ |
    ⟨d, ds, ready, offered, cmd⟩ | ⟨waits, nothing⟩
  · obtain ⟨idx, len⟩ := sim.count related runs
    rw [blockStep_finish (phase.trans runs) (by rw [idx, len, consumed])]
    exact sim.finish related runs (finish.symm.trans h)
  · obtain ⟨idx, len⟩ := sim.count related runs
    rw [blockStep_key (phase.trans runs) (by rw [idx, len]; exact below) ((sim.keyChannel related).trans offered)]
    exact sim.key (sim.setKeyChannel related ks) runs (key.symm.trans h)
  · rw [blockStep_cmd (phase ▸ ready) ((sim.cmdChannel related).trans offered)]
    exact sim.cmdStep (sim.setCmdChannel related ds) ready (cmd.symm.trans h)
  · obtain rfl := Host.Outcome.next.inj (waits.symm.trans h)
    refine ⟨s', blockStep_wait ?_, related⟩
    rcases nothing with ⟨runs, more, starved⟩ | ⟨ready, empty⟩
    · obtain ⟨idx, len⟩ := sim.count related runs
      rw [phase, idx, len, sim.keyChannel related]
      refine .inl ⟨runs, more, ?_⟩
      by_cases below : s.idx < s.len
      · exact .inl (starved below)
      · exact .inr (by bv_omega)
    · exact .inr ⟨phase ▸ ready, (sim.cmdChannel related).trans empty⟩

theorem hostTurn (related : R s s') {m : HostMove} (h : hostTurn m s = .next t) :
    ∃ t', Machine.hostTurn m s' = .next t' ∧ R t t' := by
  cases m with
  | proceed => exact sim.blockStep related h
  | pause =>
    obtain rfl := Host.Outcome.next.inj h
    exact ⟨_, rfl, related⟩
  | assertReset =>
    obtain rfl := Host.Outcome.next.inj h
    exact ⟨_, rfl, sim.reset related⟩
  | offerCommand d =>
    obtain rfl := Host.Outcome.next.inj h
    exact ⟨_, rfl, sim.cmdChannel related ▸ sim.setCmdChannel related _⟩
  | offerKey k =>
    obtain rfl := Host.Outcome.next.inj h
    exact ⟨_, rfl, sim.keyChannel related ▸ sim.setKeyChannel related _⟩
  | withdrawCommand =>
    obtain rfl := Host.Outcome.next.inj h
    exact ⟨_, rfl, sim.cmdChannel related ▸ sim.setCmdChannel related _⟩
  | withdrawKey =>
    obtain rfl := Host.Outcome.next.inj h
    exact ⟨_, rfl, sim.keyChannel related ▸ sim.setKeyChannel related _⟩

theorem step (related : R s s') (h : step s = .next t) : ∃ t', Machine.step s' = .next t' ∧ R t t' := by
  cases host : s.host with
  | nil =>
    have turn : s.BlockTurn [] := .inr ⟨host, rfl⟩
    have turn' : s'.BlockTurn [] := .inr ⟨(sim.host related).trans host, rfl⟩
    rw [step_of_blockTurn turn']
    exact sim.blockStep (sim.setHost related []) ((step_of_blockTurn turn).symm.trans h)
  | cons m ms =>
    rw [step_of_move ((sim.host related).trans host)]
    exact sim.hostTurn (sim.setHost related ms) ((step_of_move host).symm.trans h)

/-- Related states stay related over any number of steps. -/
theorem runs (k : Nat) {u : State} (related : R s s') (goes : s.Runs k u) : ∃ u', s'.Runs k u' ∧ R u u' := by
  induction k generalizing s s' with
  | zero =>
    obtain rfl := runs_zero_iff.1 goes
    exact ⟨s', runs_zero_iff.2 rfl, related⟩
  | succ k ih =>
    obtain ⟨t, h, goesOn⟩ := runs_succ_iff.1 goes
    obtain ⟨t', h', related'⟩ := sim.step related h
    obtain ⟨u', goesOn', last⟩ := ih related' goesOn
    exact ⟨u', runs_succ h' goesOn', last⟩

end Simulation

end Sys2Proof.Machine
end

/-! Hidden registers of an idle block carry nothing over (spec/10_state.md R33): a command writes every hidden register
that its steps read, so two blocks that differ in hidden registers only look the same for ever. -/
section
namespace Sys2Proof.Machine

/-- The hidden registers that a running command of `s` reads are the same in `r`: opcode and counters, the accumulator
of ONEATATIME, the lanes of the others, the pack register of the byte commands. -/
def State.ReadsSame (s : State) (r : HiddenRegisters) : Prop :=
  r.op = s.op ∧ r.len = s.len ∧ r.idx = s.idx ∧ (s.op = Opcode.oneatatime.bits → r.h = s.h) ∧
    (s.op ≠ Opcode.oneatatime.bits → (s.withHidden r).lanes = s.lanes) ∧
    ∀ ord, PacksBytes ord s.op → r.pk = s.pk

/-- `s'` is `s` but for hidden registers, and while a command runs for those only that it does not read. -/
def LooksLike (s s' : State) : Prop := ∃ r, s' = s.withHidden r ∧ (s.phase = .run → s.ReadsSame r)

/-- The hidden registers of a state. -/
def State.hidden (s : State) : HiddenRegisters where
  a := s.a
  b := s.b
  c := s.c
  h := s.h
  pk := s.pk
  op := s.op
  len := s.len
  seed1 := s.seed1
  seed2 := s.seed2
  idx := s.idx

theorem State.readsSame_hidden (s : State) : s.ReadsSame s.hidden :=
  ⟨rfl, rfl, rfl, fun _ => rfl, fun _ => rfl, fun _ _ => rfl⟩

theorem looksLike_refl (s : State) : LooksLike s s := ⟨s.hidden, rfl, fun _ => s.readsSame_hidden⟩

theorem looksLike_of_stopped {s : State} (stopped : s.phase ≠ .run) (r : HiddenRegisters) :
    LooksLike s (s.withHidden r) := ⟨r, rfl, fun runs => absurd runs stopped⟩

/-! ### The CMD step -/

theorem acceptWords_looksLike (s : State) (o : Opcode) (n x y : Word) (r : HiddenRegisters)
    (words : o = .hashword ∨ o = .hashword2) :
    LooksLike (s.acceptWords o n x y) ((s.withHidden r).acceptWords o n x y) := by
  by_cases empty : n = 0
  · subst empty
    refine ⟨((s.withHidden r).acceptWords o 0 x y).hidden, rfl, fun runs => ?_⟩
    exact absurd runs (s.acceptWords_zero_not_run o x y)
  · rw [State.acceptWords_pos _ o n x y empty, State.acceptWords_pos _ o n x y empty]
    refine ⟨⟨_, _, _, r.h, r.pk, _, _, _, _, _⟩, rfl, fun _ => ⟨rfl, rfl, rfl, fun latched => ?_, fun _ => rfl, ?_⟩⟩
    · rcases words with rfl | rfl
      · exact absurd latched (show Opcode.hashword.bits ≠ Opcode.oneatatime.bits by decide)
      · exact absurd latched (show Opcode.hashword2.bits ≠ Opcode.oneatatime.bits by decide)
    · intro ord bytes
      rcases words with rfl | rfl <;> simp [PacksBytes, Opcode.bits_inj] at bytes

theorem acceptTriple_looksLike (s : State) (o : Opcode) (x y z : Word) (r : HiddenRegisters)
    (triple : o = .mix ∨ o = .final) :
    LooksLike (s.acceptTriple o x y z) ((s.withHidden r).acceptTriple o x y z) := by
  refine ⟨((s.withHidden r).acceptTriple o x y z).hidden, rfl,
    fun _ => ⟨rfl, rfl, rfl, fun latched => ?_, fun _ => rfl, fun ord bytes => ?_⟩⟩
  · rcases triple with rfl | rfl
    · exact absurd latched (show Opcode.mix.bits ≠ Opcode.oneatatime.bits by decide)
    · exact absurd latched (show Opcode.final.bits ≠ Opcode.oneatatime.bits by decide)
  · rcases triple with rfl | rfl <;>
      simp [State.acceptTriple_eq, PacksBytes, Opcode.bits_inj] at bytes

theorem acceptBytes_looksLike (s : State) {o : Opcode} (n x y : Word) (r : HiddenRegisters)
    (notOneatatime : o ≠ .oneatatime) :
    LooksLike (s.acceptBytes o n x y) ((s.withHidden r).acceptBytes o n x y) :=
  ⟨((s.withHidden r).acceptBytes o n x y).hidden, rfl,
    fun _ => ⟨rfl, rfl, rfl, fun latched => absurd (Opcode.bits_inj.1 latched) notOneatatime, fun _ => rfl,
      fun _ _ => rfl⟩⟩

theorem acceptOneAtATime_looksLike (s : State) (n : Word) (r : HiddenRegisters) :
    LooksLike (s.acceptOneAtATime .oneatatime n) ((s.withHidden r).acceptOneAtATime .oneatatime n) :=
  ⟨((s.withHidden r).acceptOneAtATime .oneatatime n).hidden, rfl,
    fun _ => ⟨rfl, rfl, rfl, fun _ => rfl, fun other => absurd rfl other,
      fun ord bytes => absurd bytes (not_packsBytes_oneatatime ord)⟩⟩

/-- A command writes every hidden register that its steps read. -/
theorem acceptInstr_looksLike (i : Instr) (s : State) (r : HiddenRegisters) :
    LooksLike (acceptInstr i s) (acceptInstr i (s.withHidden r)) := by
  cases i with
  | mix x y z => exact acceptTriple_looksLike s .mix x y z r (.inl rfl)
  | final x y z => exact acceptTriple_looksLike s .final x y z r (.inr rfl)
  | hashword n x => exact acceptWords_looksLike s .hashword n x 0 r (.inl rfl)
  | hashword2 n x y => exact acceptWords_looksLike s .hashword2 n x y r (.inr rfl)
  | hashlittle n x => exact acceptBytes_looksLike s n x 0 r (by decide)
  | hashlittle2 n x y => exact acceptBytes_looksLike s n x y r (by decide)
  | hashbig n x => exact acceptBytes_looksLike s n x 0 r (by decide)
  | oneatatime n => exact acceptOneAtATime_looksLike s n r

/-! ### The KEY and the FINISH step -/

theorem packsBytes_ne_oneatatime {ord : ByteOrder} {op : BitVec 8} (bytes : PacksBytes ord op) :
    op ≠ Opcode.oneatatime.bits := fun latched => not_packsBytes_oneatatime ord (latched ▸ bytes)

section Running
variable {s t : State} {r : HiddenRegisters} (same : s.ReadsSame r)
include same

theorem wordElement_looksLike (other : s.op ≠ Opcode.oneatatime.bits) (w : Word) :
    LooksLike (s.wordElement w) ((s.withHidden r).wordElement w) := by
  obtain ⟨op, len, idx, -, lanes, packed⟩ := same
  have idx' : (s.withHidden r).idx = s.idx := idx
  rw [State.wordElement_eq, State.wordElement_eq, idx', lanes other]
  exact ⟨⟨_, _, _, r.h, r.pk, r.op, r.len, r.seed1, r.seed2, _⟩, rfl,
    fun _ => ⟨op, len, rfl, fun latched => absurd latched other, fun _ => rfl, packed⟩⟩

theorem byteElement_looksLike {ord : ByteOrder} (bytes : PacksBytes ord s.op) (x : Byte) :
    LooksLike (s.byteElement ord x) ((s.withHidden r).byteElement ord x) := by
  obtain ⟨op, len, idx, -, lanes, packed⟩ := same
  have other := packsBytes_ne_oneatatime bytes
  have idx' : (s.withHidden r).idx = s.idx := idx
  have pk' : (s.withHidden r).pk = s.pk := packed ord bytes
  rw [State.byteElement_eq, State.byteElement_eq, idx', pk', lanes other]
  exact ⟨⟨_, _, _, r.h, _, r.op, r.len, r.seed1, r.seed2, _⟩, rfl,
    fun _ => ⟨op, len, rfl, fun latched => absurd latched other, fun _ => rfl, fun _ _ => rfl⟩⟩

theorem oaatElement_looksLike (latched : s.op = Opcode.oneatatime.bits) (x : Byte) :
    LooksLike (s.oaatElement x) ((s.withHidden r).oaatElement x) := by
  obtain ⟨op, len, idx, accumulator, -, packed⟩ := same
  have idxNext : r.idx + 1 = s.idx + 1 := congrArg (· + 1) idx
  have folded : oaatStep r.h x = oaatStep s.h x := by rw [accumulator latched]
  exact ⟨((s.withHidden r).oaatElement x).hidden, rfl,
    fun _ => ⟨op, len, idxNext, fun _ => folded, fun other => absurd latched other, packed⟩⟩

theorem keyStep_looksLike {k : Word} (h : keyStep k s = .next t) :
    ∃ t', keyStep k (s.withHidden r) = .next t' ∧ LooksLike t t' := by
  have op : (s.withHidden r).op = s.op := same.1
  rcases keyStep_cases h with ⟨words, rfl⟩ | ⟨little, rfl⟩ | ⟨big, rfl⟩ | ⟨latched, rfl⟩
  · have other : s.op ≠ Opcode.oneatatime.bits := by
      rcases words with is | is
      · rw [is]; decide
      · rw [is]; decide
    exact ⟨_, keyStep_of_wordCommand (op.symm ▸ words) k, wordElement_looksLike same other k⟩
  · have bytes : PacksBytes .little s.op := .inl ⟨rfl, little⟩
    exact ⟨_, keyStep_of_bytes (op.symm ▸ bytes) k, byteElement_looksLike same bytes _⟩
  · have bytes : PacksBytes .big s.op := .inr ⟨rfl, big⟩
    exact ⟨_, keyStep_of_bytes (op.symm ▸ bytes) k, byteElement_looksLike same bytes _⟩
  · exact ⟨_, keyStep_of_oneatatime (op.trans latched) k, oaatElement_looksLike same latched _⟩

/-- What the flush of FINISH reads of a byte command. -/
theorem flushedLanes_withHidden {ord : ByteOrder} (bytes : PacksBytes ord s.op) :
    (s.withHidden r).flushedLanes = s.flushedLanes := by
  obtain ⟨-, len, -, -, lanes, packed⟩ := same
  have len' : (s.withHidden r).len = s.len := len
  have pk' : (s.withHidden r).pk = s.pk := packed ord bytes
  rw [State.flushedLanes, State.flushedLanes, len', pk', lanes (packsBytes_ne_oneatatime bytes)]

/-- The result words are computed from what the command reads. -/
theorem finishOf_withHidden {o : Opcode} (latched : s.op = o.bits) :
    ∃ r', finishOf o (s.withHidden r) = (finishOf o s).withHidden r' := by
  refine ⟨(finishOf o (s.withHidden r)).hidden, ?_⟩
  have lanes (other : o ≠ .oneatatime) : (s.withHidden r).lanes = s.lanes := by
    obtain ⟨-, -, -, -, lanes, -⟩ := same
    exact lanes (latched ▸ mt Opcode.bits_inj.1 other)
  cases o with
  | mix =>
    simp only [finishOf, finishMix, State.mixLanes, lanes Opcode.noConfusion]
    rfl
  | final =>
    simp only [finishOf, finishFinal, State.finalLanes, lanes Opcode.noConfusion]
    rfl
  | hashword =>
    simp only [finishOf, finishHashword, State.finalLanes, lanes Opcode.noConfusion]
    rfl
  | hashword2 =>
    simp only [finishOf, finishHashword2, State.finalLanes, lanes Opcode.noConfusion]
    rfl
  | hashlittle =>
    simp only [finishOf, finishHashlittle, reportC_finalBytes_flushPartialWord,
      flushedLanes_withHidden same (.inl ⟨rfl, .inl latched⟩)]
    rfl
  | hashlittle2 =>
    simp only [finishOf, finishHashlittle2_eq, flushedLanes_withHidden same (.inl ⟨rfl, .inr latched⟩)]
    rfl
  | hashbig =>
    simp only [finishOf, finishHashbig, reportC_finalBytes_flushPartialWord,
      flushedLanes_withHidden same (.inr ⟨rfl, latched⟩)]
    rfl
  | oneatatime =>
    obtain ⟨-, -, -, accumulator, -, -⟩ := same
    have h' : (s.withHidden r).h = s.h := accumulator latched
    simp only [finishOf, finishOneatatime_eq, h']
    rfl

theorem finishStep_looksLike (h : finishStep s = .next t) :
    ∃ t', finishStep (s.withHidden r) = .next t' ∧ LooksLike t t' := by
  obtain ⟨o, latched, rfl⟩ := finishStep_next h
  have op : (s.withHidden r).op = s.op := same.1
  obtain ⟨r', looks⟩ := finishOf_withHidden same latched
  exact ⟨_, finishStep_of_latched (op.trans latched), looks ▸ looksLike_of_stopped (finishOf_not_run o s) r'⟩

end Running

/-! ### Every step -/

theorem looksLike_simulation : Simulation LooksLike where
  cmdChannel := by rintro s _ ⟨r, rfl, -⟩; rfl
  keyChannel := by rintro s _ ⟨r, rfl, -⟩; rfl
  host := by rintro s _ ⟨r, rfl, -⟩; rfl
  phase := by rintro s _ ⟨r, rfl, -⟩; rfl
  count := by
    rintro s _ ⟨r, rfl, reads⟩ runs
    obtain ⟨-, len, idx, -⟩ := reads runs
    exact ⟨idx, len⟩
  withHost := by rintro s _ ⟨r, rfl, reads⟩ ds ks ms; exact ⟨r, rfl, reads⟩
  reset := by rintro s _ ⟨r, rfl, -⟩; exact looksLike_refl s.applyReset
  accept := by rintro s _ ⟨r, rfl, -⟩ i; exact acceptInstr_looksLike i s r
  illegal := by rintro s _ ⟨r, rfl, -⟩; exact looksLike_of_stopped Phase.noConfusion r
  key := by rintro s _ t k ⟨r, rfl, reads⟩ runs h; exact keyStep_looksLike (reads runs) h
  finish := by rintro s _ t ⟨r, rfl, reads⟩ runs h; exact finishStep_looksLike (reads runs) h

/-- What the host sees of a state needs no hidden register but the counters of a running command. -/
theorem observe_looksLike {s s' : State} (looks : LooksLike s s') : observe s' = observe s := by
  have keyReady : s'.keyReady = s.keyReady := by
    by_cases runs : s.phase = .run
    · obtain ⟨idx, len⟩ := looksLike_simulation.count looks runs
      rw [State.keyReady, State.keyReady, idx, len, looksLike_simulation.phase looks]
    · rw [State.keyReady_of_not_run runs, State.keyReady_of_not_run (looksLike_simulation.phase looks ▸ runs)]
  rw [observe, observe, keyReady]
  obtain ⟨r, rfl, -⟩ := looks
  rfl

/-- Settles O39: an idle block looks like itself with other hidden registers, and stays so. -/
theorem hiddenRegistersAreNeverSeen : Obligations.HiddenRegistersAreNeverSeen := by
  intro s r k u idle goes
  obtain ⟨u', goes', looks⟩ := looksLike_simulation.runs k (looksLike_of_stopped idle r) goes
  exact ⟨u', goes', observe_looksLike looks⟩

end Sys2Proof.Machine
end

/-! HASHWORD2 and HASHLITTLE2 with second seed 0 beside their one-seed siblings (spec/42_hashword.md section 1,
spec/43_hashlittle.md section 3): the same first result, and the same lanes after every step. -/
section
namespace Sys2Proof.Machine

/-! ### The values -/

theorem commandFn_words_secondSeedZero {len : Word} {e : List Word} (fed : e.length = len.toNat) (nonempty : len ≠ 0)
    (seed1 : Word) :
    ∃ x y, commandFn (.hashword len seed1) e = some [x] ∧ commandFn (.hashword2 len seed1 0) e = some [x, y] := by
  have lengthPos : e.length ≠ 0 := by bv_omega
  rw [commandFn_hashword fed, commandFn_hashword2 fed, hashword2Fn_eq lengthPos (fed_lt fed)]
  exact ⟨_, _, rfl, rfl⟩

theorem commandFn_bytes_secondSeedZero {len : Word} {e : List Word} (fed : e.length = len.toNat) (seed1 : Word) :
    ∃ x y, commandFn (.hashlittle len seed1) e = some [x] ∧ commandFn (.hashlittle2 len seed1 0) e = some [x, y] :=
  ⟨_, _, commandFn_hashlittle fed seed1, commandFn_hashlittle2 fed seed1 0⟩

/-! ### Two runs in step -/

/-- `s` with another opcode, another second result word, and another number of result words. -/
def State.withSibling (s : State) (op : BitVec 8) (res1 : Word) (nres : BitVec 2) : State :=
  { s with op := op, res1 := res1, nres := nres }

/-- The opcode `op` runs in step with `op'`: the same, or its sibling with two seeds. -/
def SiblingOps (op op' : BitVec 8) : Prop :=
  op' = op ∨ (op = Opcode.hashword.bits ∧ op' = Opcode.hashword2.bits) ∨
    (op = Opcode.hashlittle.bits ∧ op' = Opcode.hashlittle2.bits)

/-- `s'` is `s` but for `op`, `res1` and `nres`, and while a command runs its opcode is the same or the sibling's. -/
def Siblings (s s' : State) : Prop :=
  ∃ op res1 nres, s' = s.withSibling op res1 nres ∧ (s.phase = .run → SiblingOps s.op op)

theorem siblings_refl (s : State) : Siblings s s := ⟨s.op, s.res1, s.nres, rfl, fun _ => .inl rfl⟩

/-! ### The CMD step -/

/-- A word command is accepted with the same effect whatever `op`, `res1` and `nres` hold, but for the opcode it
latches. -/
theorem acceptWords_withSibling (s : State) (o o' : Opcode) (n x y : Word) (op : BitVec 8) (res1 : Word)
    (nres : BitVec 2) :
    (s.withSibling op res1 nres).acceptWords o' n x y = (s.acceptWords o n x y).withSibling o'.bits res1 0 := by
  by_cases empty : n = 0
  · subst empty
    rfl
  · rw [State.acceptWords_pos _ o' n x y empty, State.acceptWords_pos _ o n x y empty]
    rfl

theorem acceptInstr_op (i : Instr) (s : State) : (acceptInstr i s).op = i.opcode.bits := by
  obtain ⟨_, _, _, _, _, _, _, _, _, accepts⟩ := acceptInstr_writes i s
  rw [accepts]

theorem acceptInstr_withSibling (i : Instr) (s : State) (op : BitVec 8) (res1 : Word) (nres : BitVec 2) :
    acceptInstr i (s.withSibling op res1 nres) = (acceptInstr i s).withSibling i.opcode.bits res1 0 := by
  cases i with
  | hashword n x => exact acceptWords_withSibling s _ _ n x 0 op res1 nres
  | hashword2 n x y => exact acceptWords_withSibling s _ _ n x y op res1 nres
  | _ => rfl

/-! ### The KEY and the FINISH step -/

theorem keyStep_siblings {s t : State} {op : BitVec 8} {k : Word} (sibling : SiblingOps s.op op) (res1 : Word)
    (nres : BitVec 2) (h : keyStep k s = .next t) :
    ∃ t', keyStep k (s.withSibling op res1 nres) = .next t' ∧ Siblings t t' := by
  rcases keyStep_cases h with ⟨words, rfl⟩ | ⟨little, rfl⟩ | ⟨big, rfl⟩ | ⟨latched, rfl⟩
  · have words' : op = Opcode.hashword.bits ∨ op = Opcode.hashword2.bits := by
      rcases sibling with same | ⟨-, is⟩ | ⟨is, -⟩
      · exact same ▸ words
      · exact .inr is
      · rw [is] at words
        exact absurd words (by decide)
    refine ⟨_, keyStep_of_wordCommand (s := s.withSibling op res1 nres) words' k, ?_⟩
    rw [State.wordElement_eq, State.wordElement_eq]
    exact ⟨op, res1, nres, rfl, fun _ => sibling⟩
  · have bytes : PacksBytes .little op := by
      rcases sibling with same | ⟨is, -⟩ | ⟨-, is⟩
      · exact .inl ⟨rfl, same ▸ little⟩
      · rw [is] at little
        exact absurd little (by decide)
      · exact .inl ⟨rfl, .inr is⟩
    refine ⟨_, keyStep_of_bytes (s := s.withSibling op res1 nres) bytes k, ?_⟩
    rw [State.byteElement_eq, State.byteElement_eq]
    exact ⟨op, res1, nres, rfl, fun _ => sibling⟩
  · have bytes : PacksBytes .big op := by
      rcases sibling with same | ⟨is, -⟩ | ⟨is, -⟩
      · exact .inr ⟨rfl, same.trans big⟩
      · exact absurd (is.symm.trans big) (by decide)
      · exact absurd (is.symm.trans big) (by decide)
    refine ⟨_, keyStep_of_bytes (s := s.withSibling op res1 nres) bytes k, ?_⟩
    rw [State.byteElement_eq, State.byteElement_eq]
    exact ⟨op, res1, nres, rfl, fun _ => sibling⟩
  · have latched' : op = Opcode.oneatatime.bits := by
      rcases sibling with same | ⟨is, -⟩ | ⟨is, -⟩
      · exact same.trans latched
      · exact absurd (is.symm.trans latched) (by decide)
      · exact absurd (is.symm.trans latched) (by decide)
    exact ⟨_, keyStep_of_oneatatime (s := s.withSibling op res1 nres) latched' k, op, res1, nres, rfl,
      fun _ => sibling⟩

/-- One command reports the same first word and lanes whatever `op`, `res1` and `nres` held. -/
theorem finishOf_withSibling (o : Opcode) (s : State) (op : BitVec 8) (res1 : Word) (nres : BitVec 2) :
    ∃ r n, finishOf o (s.withSibling op res1 nres) = (finishOf o s).withSibling op r n := by
  have sameFlush : (s.withSibling op res1 nres).flushedLanes = s.flushedLanes := rfl
  refine ⟨(finishOf o (s.withSibling op res1 nres)).res1, (finishOf o (s.withSibling op res1 nres)).nres, ?_⟩
  cases o with
  | hashlittle =>
    simp only [finishOf, finishHashlittle, reportC_finalBytes_flushPartialWord, sameFlush]
    rfl
  | hashlittle2 =>
    simp only [finishOf, finishHashlittle2_eq, sameFlush]
    rfl
  | hashbig =>
    simp only [finishOf, finishHashbig, reportC_finalBytes_flushPartialWord, sameFlush]
    rfl
  | _ => rfl

/-- The command with two seeds reports what its sibling reports, and one word more. -/
theorem finishHashword2_eq_sibling (s : State) :
    ∃ r n, finishHashword2 s = (finishHashword s).withSibling s.op r n := ⟨_, _, rfl⟩

theorem finishHashlittle2_eq_sibling (s : State) :
    ∃ r n, finishHashlittle2 s = (finishHashlittle s).withSibling s.op r n := by
  rw [finishHashlittle2_eq, finishHashlittle, reportC_finalBytes_flushPartialWord]
  exact ⟨_, _, rfl⟩

theorem State.withSibling_withSibling (s : State) (op op' : BitVec 8) (r r' : Word) (n n' : BitVec 2) :
    (s.withSibling op r n).withSibling op' r' n' = s.withSibling op' r' n' := rfl

theorem finishStep_siblings {s t : State} {op : BitVec 8} (sibling : SiblingOps s.op op) (res1 : Word)
    (nres : BitVec 2) (h : finishStep s = .next t) :
    ∃ t', finishStep (s.withSibling op res1 nres) = .next t' ∧ Siblings t t' := by
  obtain ⟨o, latched, rfl⟩ := finishStep_next h
  suffices sameCommand : ∃ (o' : Opcode) (r : Word) (n : BitVec 2),
      op = o'.bits ∧ finishOf o' s = (finishOf o s).withSibling s.op r n by
    obtain ⟨o', r, n, latched', sameFirst⟩ := sameCommand
    obtain ⟨r', n', same⟩ := finishOf_withSibling o' s op res1 nres
    refine ⟨_, finishStep_of_latched (s := s.withSibling op res1 nres) latched', op, r', n', ?_,
      fun runs => absurd runs (finishOf_not_run o s)⟩
    rw [same, sameFirst, State.withSibling_withSibling]
  rcases sibling with same | ⟨is, twoSeeds⟩ | ⟨is, twoSeeds⟩
  · obtain ⟨r, n, noChange⟩ := finishOf_withSibling o s s.op s.res1 s.nres
    exact ⟨o, r, n, same.trans latched, noChange⟩
  · obtain rfl := Opcode.bits_inj.1 (latched.symm.trans is)
    obtain ⟨r, n, sameFirst⟩ := finishHashword2_eq_sibling s
    exact ⟨.hashword2, r, n, twoSeeds, sameFirst⟩
  · obtain rfl := Opcode.bits_inj.1 (latched.symm.trans is)
    obtain ⟨r, n, sameFirst⟩ := finishHashlittle2_eq_sibling s
    exact ⟨.hashlittle2, r, n, twoSeeds, sameFirst⟩

/-! ### Every step -/

theorem siblings_simulation : Simulation Siblings where
  cmdChannel := by rintro s _ ⟨op, r, n, rfl, -⟩; rfl
  keyChannel := by rintro s _ ⟨op, r, n, rfl, -⟩; rfl
  host := by rintro s _ ⟨op, r, n, rfl, -⟩; rfl
  phase := by rintro s _ ⟨op, r, n, rfl, -⟩; rfl
  count := by rintro s _ ⟨op, r, n, rfl, -⟩ -; exact ⟨rfl, rfl⟩
  withHost := by rintro s _ ⟨op, r, n, rfl, sibling⟩ ds ks ms; exact ⟨op, r, n, rfl, sibling⟩
  reset := by rintro s _ ⟨op, r, n, rfl, -⟩; exact siblings_refl s.applyReset
  accept := by
    rintro s _ ⟨op, r, n, rfl, -⟩ i
    exact ⟨_, _, _, acceptInstr_withSibling i s op r n, fun _ => .inl (acceptInstr_op i s).symm⟩
  illegal := by
    rintro s _ ⟨op, r, n, rfl, -⟩
    exact ⟨op, r, 0, rfl, fun runs => absurd runs Phase.noConfusion⟩
  key := by rintro s _ t k ⟨op, r, n, rfl, sibling⟩ runs h; exact keyStep_siblings (sibling runs) r n h
  finish := by rintro s _ t ⟨op, r, n, rfl, sibling⟩ runs h; exact finishStep_siblings (sibling runs) r n h

/-- Both commands start as siblings. -/
theorem siblings_of_accept {len seed1 : Word} {s t t' : State} (ready : s.phase ≠ .run)
    (accepts : (exec (.hashword len seed1) s = .next t ∧ exec (.hashword2 len seed1 0) s = .next t') ∨
      (exec (.hashlittle len seed1) s = .next t ∧ exec (.hashlittle2 len seed1 0) s = .next t')) : Siblings t t' := by
  rcases accepts with ⟨one, two⟩ | ⟨one, two⟩
  · obtain rfl := Host.Outcome.next.inj ((exec_ready _ s ready).symm.trans one)
    obtain rfl := Host.Outcome.next.inj ((exec_ready _ s ready).symm.trans two)
    exact ⟨_, _, _, acceptWords_withSibling s .hashword .hashword2 len seed1 0 s.op s.res1 s.nres,
      fun _ => .inr (.inl ⟨acceptInstr_op (.hashword len seed1) s, rfl⟩)⟩
  · obtain rfl := Host.Outcome.next.inj ((exec_ready _ s ready).symm.trans one)
    obtain rfl := Host.Outcome.next.inj ((exec_ready _ s ready).symm.trans two)
    exact ⟨Opcode.hashlittle2.bits, s.res1, 0, rfl, fun _ => .inr (.inr ⟨rfl, rfl⟩)⟩

/-- Settles O32: the values have the same first word, and siblings stay siblings. -/
theorem secondSeedZeroRunsInStepWithTheSibling : Obligations.SecondSeedZeroRunsInStepWithTheSibling := by
  refine ⟨fun len seed1 e fed => ⟨fun nonempty => commandFn_words_secondSeedZero fed nonempty seed1,
    commandFn_bytes_secondSeedZero fed seed1⟩, fun len seed1 s t t' ready accepts k u u' goes goes' => ?_⟩
  obtain ⟨v, sameRun, op, r, n, rfl, -⟩ := siblings_simulation.runs k (siblings_of_accept ready accepts) goes
  obtain rfl := Host.Outcome.next.inj (goes'.symm.trans sameRun)
  exact ⟨rfl, rfl, fun _ => rfl⟩

end Sys2Proof.Machine
end

/-! What an assembled call is (spec/30_encoding.md R81, R82): its command's descriptor, and its elements as beats. -/
section
namespace Sys2Proof.Machine

/-! ### What the assembler answers -/

theorem assemble_isSome (call : Call) : (assemble call).isSome = call.wellFormed := by
  cases wf : call.wellFormed with
  | true => rw [assemble_of_wellFormed wf]; rfl
  | false => rw [assemble_of_not_wellFormed wf]; rfl

theorem assemble_eq_some {call : Call} {d : Descriptor} {ks : List Word} (answer : assemble call = some (d, ks)) :
    call.wellFormed = true ∧ DescriptorOf d (callInstr call) ∧ ks = callBeats call := by
  have wf : call.wellFormed = true := by rw [← assemble_isSome, answer]; rfl
  obtain ⟨rfl, rfl⟩ := Prod.mk.inj (Option.some.inj ((assemble_of_wellFormed wf).symm.trans answer))
  exact ⟨wf, ⟨rfl, decodeOfEncodeIsTheInstruction _⟩, rfl⟩

/-! ### Numbers as words -/

theorem toNat_wordOfNat {n : Nat} (fits : wordNumber n = true) : (wordOfNat n).toNat = n :=
  Nat.mod_eq_of_lt ((wordNumber_iff n).1 fits)

theorem toNat_lenWord {α : Type} {xs : List α} (fits : countable xs = true) : (lenWord xs).toNat = xs.length :=
  Nat.mod_eq_of_lt (of_decide_eq_true fits)

theorem toNat_seedWord {seed : Option Nat} (fits : seedNumber seed = true) : (seedWord seed).toNat = seed.getD 0 :=
  seedWord_toNat ((seedNumber_iff seed).1 fits)

/-- The beats of a list of numbers that fit are those numbers, in order. -/
theorem toNat_beats {ws : List Nat} (fit : ∀ n ∈ ws, wordNumber n = true) :
    (ws.map wordOfNat).map BitVec.toNat = ws := by
  rw [List.map_map]
  exact (List.map_congr_left fun n listed => toNat_wordOfNat (fit n listed)).trans (List.map_id' ws)

/-! ### Buffers -/

theorem bufferValues_of_spells {buf : ByteSeq} {bs : List Nat} (spells : Spells buf bs) : bufferValues buf = bs := by
  rcases spells with rfl | ⟨cs, rfl, rfl⟩
  · rfl
  · rfl

/-- A well-formed buffer stands for byte values that LEN can count (R81). -/
theorem bytes_of_wellFormed {buf : ByteSeq} (wf : buf.wellFormed = true) :
    countable (bufferValues buf) = true ∧ ∀ b ∈ bufferValues buf, b < 256 := by
  cases buf with
  | list bs =>
    obtain ⟨bytes, counted⟩ := (Bool.and_eq_true _ _).mp wf
    exact ⟨counted, fun b listed => of_decide_eq_true (List.all_eq_true.1 bytes b listed)⟩
  | text cs =>
    obtain ⟨ascii, counted⟩ := (Bool.and_eq_true _ _).mp wf
    refine ⟨by simpa [countable, bufferValues] using counted, fun b coded => ?_⟩
    obtain ⟨c, listed, rfl⟩ := List.mem_map.1 coded
    have sevenBits : c.toNat < 2 ^ 7 := of_decide_eq_true (List.all_eq_true.1 ascii c listed)
    omega

/-- What a byte command's call says of its buffer: LEN, the beats, and the range of the elements. -/
theorem buffer_spec {buf : ByteSeq} {bs : List Nat} (spells : Spells buf bs) (wf : buf.wellFormed = true) :
    (lenWord (bufferValues buf)).toNat = bs.length ∧
      ((bufferValues buf).map wordOfNat).map BitVec.toNat = bs ∧ ∀ b ∈ bs, b < 256 := by
  obtain ⟨counted, bytes⟩ := bytes_of_wellFormed wf
  rw [bufferValues_of_spells spells] at counted bytes ⊢
  have fit : ∀ b ∈ bs, wordNumber b = true := fun b listed =>
    (wordNumber_iff b).2 (Nat.lt_trans (bytes b listed) (by decide))
  exact ⟨toNat_lenWord counted, toNat_beats fit, bytes⟩

/-! ### Each call form -/

section Forms
variable {d : Descriptor} {ks : List Word}

theorem assemble_mix {a b c : Nat} (answer : assemble (.mix a b c) = some (d, ks)) :
    ∃ x y z, DescriptorOf d (.mix x y z) ∧ x.toNat = a ∧ y.toNat = b ∧ z.toNat = c ∧ ks = [] := by
  obtain ⟨wf, descriptor, rfl⟩ := assemble_eq_some answer
  simp only [Call.wellFormed, Bool.and_eq_true] at wf
  obtain ⟨⟨fitsA, fitsB⟩, fitsC⟩ := wf
  exact ⟨_, _, _, descriptor, toNat_wordOfNat fitsA, toNat_wordOfNat fitsB, toNat_wordOfNat fitsC, rfl⟩

theorem assemble_final {a b c : Nat} (answer : assemble (.final a b c) = some (d, ks)) :
    ∃ x y z, DescriptorOf d (.final x y z) ∧ x.toNat = a ∧ y.toNat = b ∧ z.toNat = c ∧ ks = [] := by
  obtain ⟨wf, descriptor, rfl⟩ := assemble_eq_some answer
  simp only [Call.wellFormed, Bool.and_eq_true] at wf
  obtain ⟨⟨fitsA, fitsB⟩, fitsC⟩ := wf
  exact ⟨_, _, _, descriptor, toNat_wordOfNat fitsA, toNat_wordOfNat fitsB, toNat_wordOfNat fitsC, rfl⟩

theorem assemble_hashword {ws : List Nat} {s1 : Option Nat} (answer : assemble (.hashword ws s1) = some (d, ks)) :
    ∃ n x, DescriptorOf d (.hashword n x) ∧ n.toNat = ws.length ∧ x.toNat = s1.getD 0 ∧
      ks.map BitVec.toNat = ws := by
  obtain ⟨wf, descriptor, rfl⟩ := assemble_eq_some answer
  simp only [Call.wellFormed, Bool.and_eq_true, List.all_eq_true] at wf
  obtain ⟨⟨fit, counted⟩, fits1⟩ := wf
  exact ⟨_, _, descriptor, toNat_lenWord counted, toNat_seedWord fits1, toNat_beats fit⟩

theorem assemble_hashword2 {ws : List Nat} {s1 s2 : Option Nat}
    (answer : assemble (.hashword2 ws s1 s2) = some (d, ks)) :
    ∃ n x y, DescriptorOf d (.hashword2 n x y) ∧ n.toNat = ws.length ∧ x.toNat = s1.getD 0 ∧
      y.toNat = s2.getD 0 ∧ ks.map BitVec.toNat = ws := by
  obtain ⟨wf, descriptor, rfl⟩ := assemble_eq_some answer
  simp only [Call.wellFormed, Bool.and_eq_true, List.all_eq_true] at wf
  obtain ⟨⟨⟨⟨fit, counted⟩, fits1⟩, fits2⟩, -⟩ := wf
  exact ⟨_, _, _, descriptor, toNat_lenWord counted, toNat_seedWord fits1, toNat_seedWord fits2, toNat_beats fit⟩

variable {buf : ByteSeq} {bs : List Nat} (spells : Spells buf bs)
include spells

theorem assemble_hashlittle {s1 : Option Nat} (answer : assemble (.hashlittle buf s1) = some (d, ks)) :
    ∃ n x, DescriptorOf d (.hashlittle n x) ∧ n.toNat = bs.length ∧ x.toNat = s1.getD 0 ∧
      ks.map BitVec.toNat = bs ∧ ∀ b ∈ bs, b < 256 := by
  obtain ⟨wf, descriptor, rfl⟩ := assemble_eq_some answer
  simp only [Call.wellFormed, Bool.and_eq_true] at wf
  obtain ⟨bufferFits, fits1⟩ := wf
  obtain ⟨len, beats, bytes⟩ := buffer_spec spells bufferFits
  exact ⟨_, _, descriptor, len, toNat_seedWord fits1, beats, bytes⟩

theorem assemble_hashlittle2 {s1 s2 : Option Nat} (answer : assemble (.hashlittle2 buf s1 s2) = some (d, ks)) :
    ∃ n x y, DescriptorOf d (.hashlittle2 n x y) ∧ n.toNat = bs.length ∧ x.toNat = s1.getD 0 ∧
      y.toNat = s2.getD 0 ∧ ks.map BitVec.toNat = bs ∧ ∀ b ∈ bs, b < 256 := by
  obtain ⟨wf, descriptor, rfl⟩ := assemble_eq_some answer
  simp only [Call.wellFormed, Bool.and_eq_true] at wf
  obtain ⟨⟨⟨bufferFits, fits1⟩, fits2⟩, -⟩ := wf
  obtain ⟨len, beats, bytes⟩ := buffer_spec spells bufferFits
  exact ⟨_, _, _, descriptor, len, toNat_seedWord fits1, toNat_seedWord fits2, beats, bytes⟩

theorem assemble_hashbig {s1 : Option Nat} (answer : assemble (.hashbig buf s1) = some (d, ks)) :
    ∃ n x, DescriptorOf d (.hashbig n x) ∧ n.toNat = bs.length ∧ x.toNat = s1.getD 0 ∧
      ks.map BitVec.toNat = bs ∧ ∀ b ∈ bs, b < 256 := by
  obtain ⟨wf, descriptor, rfl⟩ := assemble_eq_some answer
  simp only [Call.wellFormed, Bool.and_eq_true] at wf
  obtain ⟨bufferFits, fits1⟩ := wf
  obtain ⟨len, beats, bytes⟩ := buffer_spec spells bufferFits
  exact ⟨_, _, descriptor, len, toNat_seedWord fits1, beats, bytes⟩

theorem assemble_oneatatime (answer : assemble (.oneatatime buf) = some (d, ks)) :
    ∃ n, DescriptorOf d (.oneatatime n) ∧ n.toNat = bs.length ∧ ks.map BitVec.toNat = bs ∧ ∀ b ∈ bs, b < 256 := by
  obtain ⟨wf, descriptor, rfl⟩ := assemble_eq_some answer
  obtain ⟨len, beats, bytes⟩ := buffer_spec spells wf
  exact ⟨_, descriptor, len, beats, bytes⟩

end Forms

/-- Settles O56, call form by call form. -/
theorem assembledCallsDecode : Obligations.AssembledCallsDecode :=
  ⟨assemble_isSome, fun _ _ =>
    ⟨fun _ _ _ => assemble_mix, fun _ _ _ => assemble_final, fun _ _ => assemble_hashword,
      fun _ _ _ => assemble_hashword2, fun _ _ spells =>
      ⟨fun _ => assemble_hashlittle spells, fun _ _ => assemble_hashlittle2 spells,
        fun _ => assemble_hashbig spells, assemble_oneatatime spells⟩⟩⟩

end Sys2Proof.Machine
end
